-- ==== Sys2Proof/Word.lean ====
section
/-! DEFINITION. The word types of the block (R8: every value is an unsigned integer of a stated
width, bit 0 the least significant). -/

namespace Sys2Proof

/-- A byte of a wire frame, or the `DATA` field of a command (R8, R113). -/
abbrev Byte := BitVec 8

/-- A 16-bit value: a channel value, a checksum accumulator, a timer (R34, R35). -/
abbrev Half := BitVec 16

/-- A 32-bit status word or response value (R42, R104). -/
abbrev Word := BitVec 32

/-- A 16-bit command word (R100). -/
abbrev CmdWord := BitVec 16

end Sys2Proof
end

