-- ==== Sys2Proof/Machine/Bits.lean ====
section
/-! DEFINITION. Placing a field at a bit position: how a word is put together from the rows of a
layout table (R8, R42 to R50, R100) and from the bytes of a frame (R79, R80). -/

namespace Sys2Proof

/-- The field `v` in a word of `w` bits, its bit 0 at bit `lo`, the other bits 0. -/
def place (w lo : Nat) {k : Nat} (v : BitVec k) : BitVec w := v.setWidth w <<< lo

end Sys2Proof
end

