-- ==== Sys2Proof/Syntax.lean ====
section
/-! DEFINITION. The command set: one constructor per row of the opcode map (R101). An operand is
the byte `DATA`, unsigned and unextended (R113). -/

namespace Sys2Proof

/-- The 19 commands of R101. -/
inductive Instr where
  /-- `NOP` (R400). -/
  | nop
  /-- `RX.SBUS b` (R204). -/
  | rxSbus (b : Byte)
  /-- `RX.IBUS b` (R243). -/
  | rxIbus (b : Byte)
  /-- `RX.CRSF b` (R284). -/
  | rxCrsf (b : Byte)
  /-- `RX.SUMD b` (R333). -/
  | rxSumd (b : Byte)
  /-- `TICK` (R401). -/
  | tick
  /-- `RD.SBUS a` (R406). -/
  | rdSbus (a : Byte)
  /-- `RD.IBUS a` (R406). -/
  | rdIbus (a : Byte)
  /-- `RD.CRSF a` (R406). -/
  | rdCrsf (a : Byte)
  /-- `RD.SUMD a` (R406). -/
  | rdSumd (a : Byte)
  /-- `CRC8.INIT` (R375). -/
  | crc8Init
  /-- `CRC8.FEED b` (R376). -/
  | crc8Feed (b : Byte)
  /-- `CRC8.RD` (R377). -/
  | crc8Rd
  /-- `RD.TIME` (R407). -/
  | rdTime
  /-- `ABORT.SBUS` (R408). -/
  | abortSbus
  /-- `ABORT.IBUS` (R408). -/
  | abortIbus
  /-- `ABORT.CRSF` (R408). -/
  | abortCrsf
  /-- `ABORT.SUMD` (R408). -/
  | abortSumd
  /-- `RESET` (R409). -/
  | reset
  deriving DecidableEq, Repr

end Sys2Proof
end

