-- ==== Sys2Proof/Decode.lean ====
section
/-! DEFINITION. Decoding a command word by the match and mask of R101 (R107), rejecting the other
words by name (R103), and the encoder. Every command is exactly one 16-bit word (R106). -/

namespace Sys2Proof

/-- Why a word is illegal (R103). The names are the model's (log 11): every such word executes as
R410, whatever its name. -/
inductive Illegal where
  /-- `OP` from 0x9 to 0xE. -/
  | reservedOp
  /-- `Z ≠ 00`. -/
  | zNotZero
  /-- `DEC ≠ 00` on a block-level operation. -/
  | decNotZero
  /-- `DATA ≠ 0x00` on an operation that takes no byte. -/
  | dataNotZero
  deriving DecidableEq, Repr

/-- The field `OP` (R100). -/
def CmdWord.op (w : CmdWord) : BitVec 4 := w.extractLsb' 12 4

/-- The field `DEC` (R100, R102). -/
def CmdWord.dec (w : CmdWord) : BitVec 2 := w.extractLsb' 10 2

/-- The field `Z` (R100). -/
def CmdWord.z (w : CmdWord) : BitVec 2 := w.extractLsb' 8 2

/-- The field `DATA` (R100, R113). -/
def CmdWord.data (w : CmdWord) : Byte := w.extractLsb' 0 8

/-- A row of the opcode map (R101): a word selects it when `word & mask` is `pattern`, and `make`
builds the command from the word's `DATA`. -/
structure OpRow where
  /-- The row's `match` value. -/
  pattern : CmdWord
  /-- The row's `mask`. -/
  mask : CmdWord
  /-- The command of the row. -/
  make : Byte → Instr

/-- The opcode map of R101, row by row. -/
def opcodeMap : List OpRow :=
  [ ⟨0x0000, 0xFFFF, fun _ => .nop⟩,
    ⟨0x1000, 0xFF00, .rxSbus⟩,
    ⟨0x1400, 0xFF00, .rxIbus⟩,
    ⟨0x1800, 0xFF00, .rxCrsf⟩,
    ⟨0x1C00, 0xFF00, .rxSumd⟩,
    ⟨0x2000, 0xFFFF, fun _ => .tick⟩,
    ⟨0x3000, 0xFF00, .rdSbus⟩,
    ⟨0x3400, 0xFF00, .rdIbus⟩,
    ⟨0x3800, 0xFF00, .rdCrsf⟩,
    ⟨0x3C00, 0xFF00, .rdSumd⟩,
    ⟨0x4000, 0xFFFF, fun _ => .crc8Init⟩,
    ⟨0x5000, 0xFF00, .crc8Feed⟩,
    ⟨0x6000, 0xFFFF, fun _ => .crc8Rd⟩,
    ⟨0x7000, 0xFFFF, fun _ => .rdTime⟩,
    ⟨0x8000, 0xFFFF, fun _ => .abortSbus⟩,
    ⟨0x8400, 0xFFFF, fun _ => .abortIbus⟩,
    ⟨0x8800, 0xFFFF, fun _ => .abortCrsf⟩,
    ⟨0x8C00, 0xFFFF, fun _ => .abortSumd⟩,
    ⟨0xF000, 0xFFFF, fun _ => .reset⟩ ]

/-- Whether a word selects a row (R101). -/
def OpRow.selects (r : OpRow) (w : CmdWord) : Bool := w &&& r.mask == r.pattern

/-- The reason a word that selects no row is illegal (R103), the leftmost offending field first. -/
def illegalReason (w : CmdWord) : Illegal :=
  if 0x9 ≤ w.op ∧ w.op ≤ 0xE then .reservedOp
  else if w.z ≠ 0 then .zNotZero
  else if w.dec ≠ 0 ∧ w.op ≠ 0x1 ∧ w.op ≠ 0x3 ∧ w.op ≠ 0x8 then .decNotZero
  else .dataNotZero

/-- The command a word stands for: the row it selects (R107), or the name of what makes it
illegal. -/
def decode (w : CmdWord) : Except Illegal Instr :=
  match opcodeMap.find? (fun r => r.selects w) with
  | some r => .ok (r.make w.data)
  | none => .error (illegalReason w)

/-- A command word from its fields, `Z` being 00 (R100). -/
def cmdWord (op : BitVec 4) (dec : BitVec 2) (data : Byte) : CmdWord :=
  place 16 12 op ||| place 16 10 dec ||| place 16 0 data

/-- The word of a command, from the `OP`, `DEC` and `DATA` columns of R101. -/
def encode : Instr → CmdWord
  | .nop => cmdWord 0x0 0 0
  | .rxSbus b => cmdWord 0x1 0 b
  | .rxIbus b => cmdWord 0x1 1 b
  | .rxCrsf b => cmdWord 0x1 2 b
  | .rxSumd b => cmdWord 0x1 3 b
  | .tick => cmdWord 0x2 0 0
  | .rdSbus a => cmdWord 0x3 0 a
  | .rdIbus a => cmdWord 0x3 1 a
  | .rdCrsf a => cmdWord 0x3 2 a
  | .rdSumd a => cmdWord 0x3 3 a
  | .crc8Init => cmdWord 0x4 0 0
  | .crc8Feed b => cmdWord 0x5 0 b
  | .crc8Rd => cmdWord 0x6 0 0
  | .rdTime => cmdWord 0x7 0 0
  | .abortSbus => cmdWord 0x8 0 0
  | .abortIbus => cmdWord 0x8 1 0
  | .abortCrsf => cmdWord 0x8 2 0
  | .abortSumd => cmdWord 0x8 3 0
  | .reset => cmdWord 0xF 0 0

/-- The word an instruction of `nbits` bits, numbered as spec/opcode_table.json numbers them, is
stored as: commands are whole 16-bit words and have no byte order (R106). -/
def storedWord (nbits w : Nat) : CmdWord := BitVec.ofNat 16 (w % 2 ^ nbits)

/-- What the decoder reads from an instruction whose bits are `w`. -/
def decodeTableWord (nbits w : Nat) : Option Instr := (decode (storedWord nbits w)).toOption

end Sys2Proof
end

