-- ==== Sys2Proof/Config.lean ====
section
/-! DEFINITION. The construction parameters of the block (R6, R492): plain data, fixed for an
instance, read by the machine and changed by no command. The OPEN ones have no default the spec
stands behind; the instance `Params.built` takes them from uninterpreted constants. -/

namespace Sys2Proof

/-- `TICK_PERIOD` in nanoseconds (R6: OPEN; no rule reads it; D4). The unit is a DESIGN CHOICE
(log 6). -/
opaque Config.tickPeriodNs : Nat

/-- `T_BYTE_SBUS` (R6: OPEN, 0 to 65535). -/
opaque Config.tByteSbus : Half

/-- `T_STALE_SBUS` (R6: OPEN, 0 to 65535). -/
opaque Config.tStaleSbus : Half

/-- The value an `IBUS_COMP_MAP` other than R246's gives for compressed channel `k` from frame
bytes 2 to 29. R245: whatever the map, it reads only those bytes and yields at most 16 bits; its
type says both. The first argument tells such maps apart (log 4). -/
opaque Config.ibusCompMap : Nat → Vector Byte 28 → Fin 4 → Half

/-- `CRSF_MAX_FRAME` (R6, R7: a derived size, not a free parameter). -/
abbrev Config.crsfMaxFrame : Nat := 64

/-- `TICKS_WIDTH` (R6, R32, R404). -/
abbrev Config.ticksWidth : Nat := 32

/-- The parameter `IBUS_COMP_MAP` (R245) as plain data (log 4). -/
inductive CompMap where
  /-- The default map of R246. -/
  | upperNibbles
  /-- Any other map, the one `Config.ibusCompMap id` stands for. -/
  | other (id : Nat)
  deriving DecidableEq, Repr

/-- The parameters of R6, in its table's order, with the defaults it gives. A field without a
default is one the table leaves OPEN or sets equal to an OPEN one. -/
structure Params where
  /-- `TICK_PERIOD` (nanoseconds); no rule reads it (R494). -/
  tickPeriodNs : Nat
  /-- `T_BYTE_SBUS`; 0 disables (R405). -/
  tByteSbus : Half
  /-- `T_STALE_SBUS`; 0 disables (R405). -/
  tStaleSbus : Half
  /-- `T_BYTE_IBUS`, default equal to `T_BYTE_SBUS` (D5). -/
  tByteIbus : Half := tByteSbus
  /-- `T_BYTE_CRSF`, default equal to `T_BYTE_SBUS` (D5). -/
  tByteCrsf : Half := tByteSbus
  /-- `T_BYTE_SUMD`, default equal to `T_BYTE_SBUS` (D5). -/
  tByteSumd : Half := tByteSbus
  /-- `T_STALE_IBUS`, default equal to `T_STALE_SBUS` (D6). -/
  tStaleIbus : Half := tStaleSbus
  /-- `T_STALE_CRSF`, default equal to `T_STALE_SBUS` (D6). -/
  tStaleCrsf : Half := tStaleSbus
  /-- `T_STALE_SUMD`, default equal to `T_STALE_SBUS` (D6). -/
  tStaleSumd : Half := tStaleSbus
  /-- `SBUS_START`. -/
  sbusStart : Byte := 0x0F
  /-- `SBUS_END` (D12: no other end byte). -/
  sbusEnd : Byte := 0x00
  /-- `SBUS_MIN`. -/
  sbusMin : Half := 172
  /-- `SBUS_MAX`. -/
  sbusMax : Half := 1811
  /-- `SBUS_CENTER`; informative, no rule reads it (R6). -/
  sbusCenter : Half := 992
  /-- `IBUS_HDR0`. -/
  ibusHdr0 : Byte := 0x20
  /-- `IBUS_HDR1`. -/
  ibusHdr1 : Byte := 0x40
  /-- `IBUS_SEED`. -/
  ibusSeed : Half := 0xFFFF
  /-- `IBUS_STD_MASK` (D16). -/
  ibusStdMask : Half := 0xFFFF
  /-- `IBUS_COMP_MAP` (D16). -/
  ibusCompMap : CompMap := .upperNibbles
  /-- `IBUS_MIN` (D17). -/
  ibusMin : Half := 0
  /-- `IBUS_MAX` (D17). -/
  ibusMax : Half := 0xFFFF
  /-- `CRSF_SYNC` (D18). -/
  crsfSync : Byte := 0xC8
  /-- `CRSF_LEN_MIN` (D18). -/
  crsfLenMin : Byte := 2
  /-- `CRSF_LEN_MAX` = `CRSF_MAX_FRAME` − 2 (R281). -/
  crsfLenMax : Byte := 62
  /-- `CRSF_TYPE_RC` (PRESUMED by the spec, G4; log 16). -/
  crsfTypeRc : Byte := 0x16
  /-- `CRSF_EXT_MIN` (PRESUMED by the spec, G5; log 16). -/
  crsfExtMin : Byte := 0x28
  /-- `CRSF_MIN` (D22). -/
  crsfMin : Half := 172
  /-- `CRSF_MAX` (D22). -/
  crsfMax : Half := 1811
  /-- `CRC8_POLY`, without the x^8 term (PRESUMED by the spec, G1; log 16). -/
  crc8Poly : Byte := 0xD5
  /-- `CRC8_INIT` (PRESUMED by the spec, G1; log 16). -/
  crc8Init : Byte := 0x00
  /-- `SUMD_SYNC`. -/
  sumdSync : Byte := 0xA8
  /-- `SUMD_ST_NORMAL`. -/
  sumdStNormal : Byte := 0x01
  /-- `SUMD_ST_FAILSAFE`. -/
  sumdStFailsafe : Byte := 0x81
  /-- `SUMD_CRC_POLY`. -/
  sumdCrcPoly : Half := 0x1021
  /-- `SUMD_CRC_INIT` (PRESUMED by the spec, G2; log 16). -/
  sumdCrcInit : Half := 0x0000
  /-- `SUMD_MIN_CH` (D23). -/
  sumdMinCh : Byte := 1
  /-- `SUMD_MAX_CH` (D23; 32 is PRESUMED by the spec, G8; log 16). -/
  sumdMaxCh : Byte := 32
  /-- `SUMD_EXT_LOW` (PRESUMED by the spec, G7; log 16). -/
  sumdExtLow : Half := 0x1C20
  /-- `SUMD_MIN` (PRESUMED by the spec, G7; log 16). -/
  sumdMin : Half := 0x2260
  /-- `SUMD_CENTER`; no rule reads it (R335). -/
  sumdCenter : Half := 0x2EE0
  /-- `SUMD_MAX` (PRESUMED by the spec, G7; log 16). -/
  sumdMax : Half := 0x3B60
  /-- `SUMD_EXT_HIGH` (PRESUMED by the spec, G7; log 16). -/
  sumdExtHigh : Half := 0x41A0
  deriving DecidableEq, Repr

/-- The instance built with every default of R6, its OPEN parameters the uninterpreted constants:
nothing can be proved of their values (log 3). -/
def Params.built : Params :=
  { tickPeriodNs := Config.tickPeriodNs
    tByteSbus := Config.tByteSbus
    tStaleSbus := Config.tStaleSbus }

end Sys2Proof
end

