-- ==== Sys2Proof/Machine/Checksum.lean ====
section
/-! DEFINITION. The checksum engines (45_checksums_crc8.md): pure functions of the parameters the
rules name. -/

namespace Sys2Proof.Machine

/-- `Sum16Step(a, b)` (R370). -/
def sum16Step (a : Half) (b : Byte) : Half := a - b.setWidth 16

/-- `IbusSum(b0, …, bm)` (R370), from the seed `IBUS_SEED`. -/
def ibusSum (seed : Half) (bytes : List Byte) : Half := bytes.foldl sum16Step seed

/-- One of the eight repetitions of `Crc8Step` (R371): shift left by one bit, and feed the polynomial
back when the bit shifted out is 1. -/
def crc8Shift (poly c : Byte) : Byte := if c.msb then (c <<< 1) ^^^ poly else c <<< 1

/-- `Crc8Step(c, b)` (R371), most significant bit first, no reflection. -/
def crc8Step (poly c b : Byte) : Byte := Nat.repeat (crc8Shift poly) 8 (c ^^^ b)

/-- `Crc8(b0, …, bm)` (R372), from the initial value `CRC8_INIT`, no final XOR. -/
def crc8 (poly init : Byte) (bytes : List Byte) : Byte := bytes.foldl (crc8Step poly) init

/-- One of the eight repetitions of `Crc16Step` (R373). -/
def crc16Shift (poly c : Half) : Half := if c.msb then (c <<< 1) ^^^ poly else c <<< 1

/-- `Crc16Step(c, b)` (R373), most significant bit first, no reflection. -/
def crc16Step (poly c : Half) (b : Byte) : Half :=
  Nat.repeat (crc16Shift poly) 8 (c ^^^ (b.setWidth 16 <<< 8))

/-- `Crc16(b0, …, bm)` (R374), from the initial value `SUMD_CRC_INIT`, no final XOR. -/
def crc16 (poly init : Half) (bytes : List Byte) : Half := bytes.foldl (crc16Step poly) init

end Sys2Proof.Machine
end

