-- ==== Sys2Proof/Machine/State.lean ====
section
/-! DEFINITION. The architectural state of the block (10_state.md), its reset value (R53), and the
two reason types of the host's interface. Plain data: no field is a function. -/

namespace Sys2Proof.Machine

/-- The SBus FSM states (R38, R200), in the order of their codes. -/
inductive SbusState where
  | undefined
  | data
  | waitEnd
  | gotEnd
  deriving DecidableEq, Repr

/-- The IBus FSM states (R38, R240), in the order of their codes. Code 3 is unused: a 3-state type
(U8, log 8). -/
inductive IbusState where
  | idle
  | hdr
  | data
  deriving DecidableEq, Repr

/-- The CRSF FSM states (R38, R280), in the order of their codes. Code 3 is unused: a 3-state type
(U8, log 8). -/
inductive CrsfState where
  | sync
  | len
  | data
  deriving DecidableEq, Repr

/-- The SumD FSM states (R38, R330), in the order of their codes. -/
inductive SumdState where
  | sync
  | status
  | count
  | data
  deriving DecidableEq, Repr

/-- The class of a channel value, in the order of the 2-bit codes of R35. -/
inductive ChanClass where
  | inRange
  | extLow
  | extHigh
  | out
  deriving DecidableEq, Repr

/-- The error events of R451, in the order of their codes; codes 5 to 7 are never written (U7,
log 8). -/
inductive ErrorEvent where
  | none
  | framing
  | checksum
  | byteTimeout
  | stale
  deriving DecidableEq, Repr

/-- One bank of a Channel Store with room for `cap` channels (R35). -/
structure Bank (cap : Nat) where
  /-- `VAL[k]`. -/
  val : Vector Half cap
  /-- `CLS[k]`. -/
  cls : Vector ChanClass cap
  /-- `CNT`, the number of channels in the bank's frame. -/
  cnt : BitVec 6
  /-- `FL`, the flags nibble (R39). -/
  fl : BitVec 4
  deriving DecidableEq, Repr

/-- One decoder instance (R34, R35, R36), with FSM states `σ`, an accumulation buffer of `bufLen`
bytes and a channel capacity of `cap` (R7). -/
structure Decoder (σ : Type) (bufLen cap : Nat) where
  /-- `D.ST`. -/
  st : σ
  /-- `D.IDX`, bytes of the current frame received in the current phase. -/
  idx : BitVec 8
  /-- `D.EXP`, the count the frame announced. -/
  exp : BitVec 8
  /-- `D.ACC`, the running checksum. -/
  acc : Half
  /-- `D.BUF`, the accumulation buffer. -/
  buf : Vector Byte bufLen
  /-- `D.GAP`, TICKs since the last byte of a partial frame. -/
  gap : Half
  /-- `D.BANK[0]`. -/
  bank0 : Bank cap
  /-- `D.BANK[1]`. -/
  bank1 : Bank cap
  /-- `D.ACT`, the bank readers see: `true` is 1. -/
  act : Bool
  /-- `D.VALID`. -/
  valid : Bool
  /-- `D.HAS`. -/
  has : Bool
  /-- `D.AGE`, TICKs since the last publish while valid. -/
  age : Half
  /-- `D.STAMP`, `S.TICKS` at the last publish. -/
  stamp : Word
  /-- `D.LAST_ERR`. -/
  lastErr : ErrorEvent
  /-- `D.FRM_ERR`. -/
  frmErr : BitVec 8
  /-- `D.CK_ERR`. -/
  ckErr : BitVec 8
  /-- `D.FRAMES`. -/
  frames : BitVec 16
  deriving DecidableEq, Repr

/-- The SBus decoder: 23 payload bytes, 16 channels (R7, R200). -/
abbrev SbusDecoder := Decoder SbusState 23 16

/-- The IBus-servo decoder: 32 bytes, 18 channels (R7, R240). -/
abbrev IbusDecoder := Decoder IbusState 32 18

/-- The CRSF decoder: 64 bytes, 16 channels (R7, R280). -/
abbrev CrsfDecoder := Decoder CrsfState 64 16

/-- The SumD decoder: 69 bytes, 32 channels (R7, R330). -/
abbrev SumdDecoder := Decoder SumdState 69 32

/-- The two fields only the CRSF decoder holds: the copy of the last CRC-valid frame, `D.XBUF`, and
its description, `D.LF` (R37). -/
structure Mirror where
  /-- `D.XBUF`. -/
  xbuf : Vector Byte 64
  /-- `D.LF.TYPE`. -/
  type : Byte
  /-- `D.LF.DEST`. -/
  dest : Byte
  /-- `D.LF.ORIG`. -/
  orig : Byte
  /-- `D.LF.EXT`. -/
  ext : Bool
  /-- `D.LF.PRESENT`. -/
  present : Bool
  /-- `D.LF.LEN`. -/
  len : BitVec 6
  deriving DecidableEq, Repr

/-- The status of a response (R104). -/
inductive Status where
  | ok
  | illegal
  deriving DecidableEq, Repr

/-- The response every command returns (R104). -/
structure Response where
  status : Status
  value : Word
  deriving DecidableEq, Repr

/-- The state of the block. -/
structure State where
  /-- The construction parameters of this instance (R6, R492): no command changes them (log 3). -/
  params : Params
  /-- `S.TICKS` (R32). -/
  ticks : Word
  /-- `S.CRC8_ACC` (R32). -/
  crc8Acc : Byte
  /-- Decoder 0 (R33). -/
  sbus : SbusDecoder
  /-- Decoder 1 (R33). -/
  ibus : IbusDecoder
  /-- Decoder 2 (R33). -/
  crsf : CrsfDecoder
  /-- The further fields of decoder 2 (R37). -/
  mirror : Mirror
  /-- Decoder 3 (R33). -/
  sumd : SumdDecoder
  /-- The response of the command last executed (R104; log 2). -/
  resp : Response
  /-- The MODEL's own field: command words the host has issued and the block has not executed yet,
  oldest first (R31, R84; log 1). -/
  pending : List CmdWord
  deriving DecidableEq, Repr

/-- Why the machine stops with a fault: never. No input leaves the block stuck or faulted (R467,
R450), so this type has no constructor. -/
inductive Fault where
  deriving DecidableEq, Repr

/-- Why the machine gives a command no meaning. Every command of the table has its meaning, and an
illegal word is executed as R410 (log 10). -/
inductive Refusal where
  /-- An instruction the model does not give a meaning yet. Nothing raises it; it would be safe. -/
  | notModelled (mnemonic : String)
  deriving DecidableEq, Repr

/-- A bank after reset (R53). -/
def Bank.reset (cap : Nat) : Bank cap :=
  { val := Vector.replicate cap 0
    cls := Vector.replicate cap .out
    cnt := 0
    fl := 0 }

/-- A decoder after reset (R53), in FSM state `st`. `D.BUF` is unspecified there and unobservable
(R54); its zeros are a DESIGN CHOICE (log 5). -/
def Decoder.reset {σ : Type} (st : σ) (bufLen cap : Nat) : Decoder σ bufLen cap :=
  { st := st, idx := 0, exp := 0, acc := 0
    buf := Vector.replicate bufLen 0
    gap := 0
    bank0 := Bank.reset cap
    bank1 := Bank.reset cap
    act := false, valid := false, has := false
    age := 0, stamp := 0
    lastErr := .none, frmErr := 0, ckErr := 0, frames := 0 }

/-- `D.XBUF` and `D.LF` after reset (R53). -/
def Mirror.reset : Mirror :=
  { xbuf := Vector.replicate 64 0
    type := 0, dest := 0, orig := 0, ext := false, present := false, len := 0 }

/-- An instance built with parameters `p`, right after reset: the table of R53. The response is that
of RESET (R409, R490; log 2); no command is waiting (log 1). -/
def State.resetWith (p : Params) : State :=
  { params := p
    ticks := 0
    crc8Acc := p.crc8Init
    sbus := Decoder.reset .undefined 23 16
    ibus := Decoder.reset .idle 32 18
    crsf := Decoder.reset .sync 64 16
    mirror := Mirror.reset
    sumd := Decoder.reset .sync 69 32
    resp := { status := .ok, value := 0 }
    pending := [] }

/-- The machine right after reset (R53, R490), built with the parameters of R6. -/
def State.reset : State := State.resetWith Params.built

end Sys2Proof.Machine
end

