-- ==== Sys2Proof/Machine/Operands.lean ====
section
/-! DEFINITION. How values are assembled from the bytes of a frame (R113): the 11-bit fields of R78,
the 16-bit words of R79 and R80, the IBus compressed channels of R245 and R246; and access to the
accumulation buffer and the banks of a decoder. -/

namespace Sys2Proof.Machine

/-- `D.BUF[i]`. An index past the buffer, which no run reaches, reads 0 (log 7). -/
def Decoder.byte {σ : Type} {n cap : Nat} (D : Decoder σ n cap) (i : Nat) : Byte := D.buf[i]?.getD 0

/-- `D.BUF[i] ← b` (R74). An index past the buffer, which no run reaches, writes nothing (log 7). -/
def Decoder.putByte {σ : Type} {n cap : Nat} (D : Decoder σ n cap) (i : Nat) (b : Byte) :
    Decoder σ n cap :=
  { D with buf := D.buf.setIfInBounds i b }

/-- `D.BUF[first .. first + len − 1]`, in order. -/
def Decoder.bytes {σ : Type} {n cap : Nat} (D : Decoder σ n cap) (first len : Nat) : List Byte :=
  (List.range len).map fun i => D.byte (first + i)

/-- `D.BANK[b]`, `true` standing for 1 (R35). -/
def Decoder.bank {σ : Type} {n cap : Nat} (D : Decoder σ n cap) (b : Bool) : Bank cap :=
  if b then D.bank1 else D.bank0

/-- The bank readers see, `D.BANK[D.ACT]` (R75). -/
def Decoder.active {σ : Type} {n cap : Nat} (D : Decoder σ n cap) : Bank cap := D.bank D.act

/-- `D.BANK[b] ← B`. -/
def Decoder.putBank {σ : Type} {n cap : Nat} (D : Decoder σ n cap) (b : Bool) (B : Bank cap) :
    Decoder σ n cap :=
  if b then { D with bank1 := B } else { D with bank0 := B }

/-- `VAL[k]` of a bank; past its capacity, which `CNT` never exceeds in a run, 0 (log 7). -/
def Bank.valueAt {cap : Nat} (B : Bank cap) (k : Nat) : Half := B.val[k]?.getD 0

/-- `CLS[k]` of a bank; past its capacity, OUT (log 7). -/
def Bank.classAt {cap : Nat} (B : Bank cap) (k : Nat) : ChanClass := B.cls[k]?.getD .out

/-- The little-endian integer `Σ p[j]·2^(8j)` of R78. -/
def leNat : List Byte → Nat
  | [] => 0
  | b :: bs => b.toNat + 2 ^ 8 * leNat bs

/-- `Unpack11(p)` (R78): sixteen 11-bit values out of the little-endian integer of the bytes `p`. -/
def unpack11 (p : List Byte) : List Half :=
  (List.range 16).map fun k => BitVec.ofNat 16 ((leNat p >>> (11 * k)) &&& 0x7FF)

/-- The integer `Σ ch[k]·2^(11k)` of R78. -/
def pack11Nat : List Half → Nat
  | [] => 0
  | c :: cs => c.toNat + 2 ^ 11 * pack11Nat cs

/-- `Pack11(ch)` (R78): that integer as 22 bytes, the least significant first. -/
def pack11 (ch : List Half) : List Byte :=
  (List.range 22).map fun j => BitVec.ofNat 8 (pack11Nat ch >>> (8 * j))

/-- A 16-bit word sent least significant byte first (R79). -/
def leHalf (low high : Byte) : Half := place 16 8 high ||| place 16 0 low

/-- A 16-bit word sent most significant byte first (R80). -/
def beHalf (high low : Byte) : Half := place 16 8 high ||| place 16 0 low

/-- The low byte of a 16-bit word, `v[7:0]`. -/
def lowByte (v : Half) : Byte := v.extractLsb' 0 8

/-- The high byte of a 16-bit word, `v[15:8]`. -/
def highByte (v : Half) : Byte := v.extractLsb' 8 8

/-- The upper nibble of a byte, `b[7:4]`. -/
def upperNibble (b : Byte) : BitVec 4 := b.extractLsb' 4 4

/-- Three nibbles, the first the most significant, zero-extended to 16 bits (R246). -/
def nibbles (high mid low : BitVec 4) : Half := place 16 8 high ||| place 16 4 mid ||| place 16 0 low

/-- The 28 payload bytes of an IBus frame, frame bytes 2 to 29 (R110). -/
def ibusPayload (D : IbusDecoder) : Vector Byte 28 := Vector.ofFn fun i => D.byte (2 + i.val)

/-- `IBUS_COMP_MAP(BUF, k)` (R245): by default the upper nibbles of the high bytes of three
consecutive standard channels, the lowest-numbered channel's the least significant (R246). -/
def ibusCompressed (m : CompMap) (D : IbusDecoder) (k : Fin 4) : Half :=
  match m with
  | .upperNibbles =>
    nibbles (upperNibble (D.byte (7 + 6 * k.val))) (upperNibble (D.byte (5 + 6 * k.val)))
      (upperNibble (D.byte (3 + 6 * k.val)))
  | .other id => Config.ibusCompMap id (ibusPayload D) k

/-- The 14 standard channels of an IBus frame (R244). -/
def ibusStandard (mask : Half) (D : IbusDecoder) : List Half :=
  (List.range 14).map fun j => leHalf (D.byte (2 + 2 * j)) (D.byte (3 + 2 * j)) &&& mask

/-- `IbusDecode(BUF)`: the standard channels and then the compressed ones (R244, R245). -/
def ibusDecode (p : Params) (D : IbusDecoder) : List Half :=
  ibusStandard p.ibusStdMask D ++
    [ibusCompressed p.ibusCompMap D 0, ibusCompressed p.ibusCompMap D 1,
     ibusCompressed p.ibusCompMap D 2, ibusCompressed p.ibusCompMap D 3]

/-- The sixteen channels of an SBus frame, payload bytes 0 to 21 (R201). -/
def sbusDecode (D : SbusDecoder) : List Half := unpack11 (D.bytes 0 22)

/-- The sixteen channels of a CRSF RC-channels frame, frame bytes 3 to 24 (R285). -/
def crsfDecode (D : CrsfDecoder) : List Half := unpack11 (D.bytes 3 22)

/-- The `n` channels of a SumD frame (R334). -/
def sumdDecode (n : Nat) (D : SumdDecoder) : List Half :=
  (List.range n).map fun k => beHalf (D.byte (3 + 2 * k)) (D.byte (4 + 2 * k))

end Sys2Proof.Machine
end

