-- ==== Sys2Proof/Machine/Flags.lean ====
section
/-! DEFINITION. The classes of channel values, the flags nibble, and the codes of the fields the
status words show (R35, R38, R39, R451). -/

namespace Sys2Proof.Machine

/-- The class of a value against a declared range: IN_RANGE within it, OUT otherwise (R202, R247,
R289). -/
def rangeClass (low high v : Half) : ChanClass := if low ≤ v ∧ v ≤ high then .inRange else .out

/-- The class of an SBus value (R202). -/
def sbusClass (p : Params) : Half → ChanClass := rangeClass p.sbusMin p.sbusMax

/-- The class of an IBus value (R247). -/
def ibusClass (p : Params) : Half → ChanClass := rangeClass p.ibusMin p.ibusMax

/-- The class of a CRSF value (R289). -/
def crsfClass (p : Params) : Half → ChanClass := rangeClass p.crsfMin p.crsfMax

/-- `SumdClass(v)` (R335). -/
def sumdClass (p : Params) (v : Half) : ChanClass :=
  if p.sumdMin ≤ v ∧ v ≤ p.sumdMax then .inRange
  else if p.sumdExtLow ≤ v ∧ v < p.sumdMin then .extLow
  else if p.sumdMax < v ∧ v ≤ p.sumdExtHigh then .extHigh
  else .out

/-- The 2-bit code of a class (R35). -/
def ChanClass.code : ChanClass → BitVec 2
  | .inRange => 0
  | .extLow => 1
  | .extHigh => 2
  | .out => 3

/-- The flags nibble of an SBus frame: bits 3:0 of payload byte 22, that is DIG17, DIG18, FRAME_LOST
and FAILSAFE from bit 0 up (R39, R201). -/
def sbusFlags (D : SbusDecoder) : BitVec 4 := (D.byte 22).extractLsb' 0 4

/-- The flags nibble of a SumD frame: FL[3] FAILSAFE if the status byte was `SUMD_ST_FAILSAFE`
(R336). -/
def sumdFlags (p : Params) (D : SumdDecoder) : BitVec 4 :=
  if D.byte 1 = p.sumdStFailsafe then 0b1000 else 0b0000

/-- The FSM state code of the SBus decoder (R38). -/
def SbusState.code : SbusState → BitVec 2
  | .undefined => 0
  | .data => 1
  | .waitEnd => 2
  | .gotEnd => 3

/-- The FSM state code of the IBus decoder (R38). -/
def IbusState.code : IbusState → BitVec 2
  | .idle => 0
  | .hdr => 1
  | .data => 2

/-- The FSM state code of the CRSF decoder (R38). -/
def CrsfState.code : CrsfState → BitVec 2
  | .sync => 0
  | .len => 1
  | .data => 2

/-- The FSM state code of the SumD decoder (R38). -/
def SumdState.code : SumdState → BitVec 2
  | .sync => 0
  | .status => 1
  | .count => 2
  | .data => 3

/-- The idle states of the SBus decoder: `Undefined` and `GotEnd` (R38). -/
def SbusState.isIdle : SbusState → Bool
  | .undefined | .gotEnd => true
  | .data | .waitEnd => false

/-- The idle state of the IBus decoder: `Idle` (R38). -/
def IbusState.isIdle : IbusState → Bool
  | .idle => true
  | .hdr | .data => false

/-- The idle state of the CRSF decoder: `Sync` (R38). -/
def CrsfState.isIdle : CrsfState → Bool
  | .sync => true
  | .len | .data => false

/-- The idle state of the SumD decoder: `Sync` (R38). -/
def SumdState.isIdle : SumdState → Bool
  | .sync => true
  | .status | .count | .data => false

/-- The 3-bit code of an error event (R451). -/
def ErrorEvent.code : ErrorEvent → BitVec 3
  | .none => 0
  | .framing => 1
  | .checksum => 2
  | .byteTimeout => 3
  | .stale => 4

end Sys2Proof.Machine
end

