-- ==== Sys2Proof/Machine/Ops.lean ====
section
/-! DEFINITION. The shared operations: responses (R104), Publish (R76), the error procedures (R452 to
R455, this block's taking of an exception), the timers (R402, R403), the mirror (R287), the read map
(R42 to R50), and the named updates of State. The block has no return from an exception: an error
procedure runs no command (R460). -/

namespace Sys2Proof.Machine

/-! ### Named updates of State -/

/-- The response of the command (R104). -/
def State.setResp (s : State) (r : Response) : State := { s with resp := r }

/-- A new `S.TICKS`. -/
def State.setTicks (s : State) (t : Word) : State := { s with ticks := t }

/-- A new `S.CRC8_ACC`. -/
def State.setCrc8Acc (s : State) (c : Byte) : State := { s with crc8Acc := c }

/-- A new state of decoder 0. -/
def State.setSbus (s : State) (D : SbusDecoder) : State := { s with sbus := D }

/-- A new state of decoder 1. -/
def State.setIbus (s : State) (D : IbusDecoder) : State := { s with ibus := D }

/-- A new state of decoder 2, its further fields (R37) left alone. -/
def State.setCrsf (s : State) (D : CrsfDecoder) : State := { s with crsf := D }

/-- New further fields of decoder 2 (R37). -/
def State.setMirror (s : State) (m : Mirror) : State := { s with mirror := m }

/-- A new state of decoder 3. -/
def State.setSumd (s : State) (D : SumdDecoder) : State := { s with sumd := D }

/-- A new queue of waiting commands (log 1). -/
def State.setPending (s : State) (q : List CmdWord) : State := { s with pending := q }

/-! ### Responses -/

/-- The response `(OK, v)` (R104). -/
def respOk (v : Word) : Response := { status := .ok, value := v }

/-- The response `(ILLEGAL, 0)` (R104, R410). -/
def respIllegal : Response := { status := .illegal, value := 0 }

/-- The value of an RX response, `zext_32({pub, frame})` (R105). -/
def rxValue (frame pub : Bool) : Word := 
  place 32 1 (BitVec.ofBool pub) ||| place 32 0 (BitVec.ofBool frame)

/-- The execution of an illegal command (R410): the response, and no field of the block changes. -/
def State.illegal (s : State) : State := s.setResp respIllegal

/-! ### What the shared operations need to know of a protocol -/

/-- The initial state, the idle states, the state codes and the timeout parameters of a protocol
(R38, R6). -/
structure Protocol (σ : Type) where
  /-- State code 0. -/
  initial : σ
  /-- Whether a state is idle (R38). -/
  isIdle : σ → Bool
  /-- The 2-bit state code (R38). -/
  code : σ → BitVec 2
  /-- `T_BYTE_<P>`. -/
  tByte : Params → Half
  /-- `T_STALE_<P>`. -/
  tStale : Params → Half

/-- Protocol 0, SBus. -/
def sbusProtocol : Protocol SbusState :=
  { initial := .undefined, isIdle := SbusState.isIdle, code := SbusState.code
    tByte := Params.tByteSbus, tStale := Params.tStaleSbus }

/-- Protocol 1, IBus-servo. -/
def ibusProtocol : Protocol IbusState :=
  { initial := .idle, isIdle := IbusState.isIdle, code := IbusState.code
    tByte := Params.tByteIbus, tStale := Params.tStaleIbus }

/-- Protocol 2, CRSF. -/
def crsfProtocol : Protocol CrsfState :=
  { initial := .sync, isIdle := CrsfState.isIdle, code := CrsfState.code
    tByte := Params.tByteCrsf, tStale := Params.tStaleCrsf }

/-- Protocol 3, SumD. -/
def sumdProtocol : Protocol SumdState :=
  { initial := .sync, isIdle := SumdState.isIdle, code := SumdState.code
    tByte := Params.tByteSumd, tStale := Params.tStaleSumd }

/-! ### Publish and the error procedures -/

/-- Elements `k, k + 1, …` of a vector replaced by the list's, the others kept. -/
def storeFrom {α : Type} {n : Nat} (v : Vector α n) (k : Nat) : List α → Vector α n
  | [] => v
  | x :: xs => storeFrom (v.setIfInBounds k x) (k + 1) xs

/-- A bank after the frame `vals`, `cls`, `fl` was written into it: entries past the frame keep what
they held (R76). -/
def Bank.load {cap : Nat} (B : Bank cap) (vals : List Half) (cls : List ChanClass) (fl : BitVec 4) :
    Bank cap :=
  { val := storeFrom B.val 0 vals
    cls := storeFrom B.cls 0 cls
    cnt := BitVec.ofNat 6 vals.length
    fl := fl }

/-- `Publish(D, vals, cls, fl)` at tick `now` (R76): the inactive bank is written, then the selector
flips. -/
def publish {σ : Type} {n cap : Nat} (now : Word) (vals : List Half) (cls : List ChanClass)
    (fl : BitVec 4) (D : Decoder σ n cap) : Decoder σ n cap :=
  { D.putBank (!D.act) ((D.bank (!D.act)).load vals cls fl) with
    act := !D.act
    valid := true
    has := true
    age := 0
    stamp := now
    frames := D.frames + 1 }

/-- The return to the initial FSM state, dropping a partial frame (R408, and the first line of R452
to R454). -/
def restart {σ : Type} {n cap : Nat} (P : Protocol σ) (D : Decoder σ n cap) : Decoder σ n cap :=
  { D with st := P.initial, idx := 0, exp := 0, gap := 0 }

/-- `raise FramingError(D)` (R452). -/
def framingError {σ : Type} {n cap : Nat} (P : Protocol σ) (D : Decoder σ n cap) :
    Decoder σ n cap :=
  { restart P D with lastErr := .framing, frmErr := D.frmErr + 1 }

/-- `raise ChecksumError(D)` (R453). -/
def checksumError {σ : Type} {n cap : Nat} (P : Protocol σ) (D : Decoder σ n cap) :
    Decoder σ n cap :=
  { restart P D with lastErr := .checksum, ckErr := D.ckErr + 1 }

/-- `raise ByteTimeout(D)` (R454). -/
def byteTimeout {σ : Type} {n cap : Nat} (P : Protocol σ) (D : Decoder σ n cap) : Decoder σ n cap :=
  { restart P D with lastErr := .byteTimeout, frmErr := D.frmErr + 1 }

/-- `raise StaleData(D)` (R455). -/
def staleData {σ : Type} {n cap : Nat} (D : Decoder σ n cap) : Decoder σ n cap :=
  { D with valid := false, lastErr := .stale }

/-! ### Timers -/

/-- `D.GAP ← 0`: what every received byte does first (R204, R243, R284, R333), and a TICK to an idle
decoder (R402). -/
def Decoder.clearGap {σ : Type} {n cap : Nat} (D : Decoder σ n cap) : Decoder σ n cap :=
  { D with gap := 0 }

/-- `GapStep(D)` (R402, R405). -/
def gapStep {σ : Type} {n cap : Nat} (P : Protocol σ) (p : Params) (D : Decoder σ n cap) :
    Decoder σ n cap :=
  if P.isIdle D.st then D.clearGap
  else if P.tByte p = 0 then D
  else if D.gap + 1 = P.tByte p then byteTimeout P { D with gap := D.gap + 1 }
  else { D with gap := D.gap + 1 }

/-- `StaleStep(D)` (R403, R405). -/
def staleStep {σ : Type} {n cap : Nat} (P : Protocol σ) (p : Params) (D : Decoder σ n cap) :
    Decoder σ n cap :=
  if D.valid = false ∨ P.tStale p = 0 then D
  else if D.age + 1 = P.tStale p then staleData { D with age := D.age + 1 }
  else { D with age := D.age + 1 }

/-- What a TICK does to one decoder: GapStep, then StaleStep (R401, R459). -/
def tickDecoder {σ : Type} {n cap : Nat} (P : Protocol σ) (p : Params) (D : Decoder σ n cap) :
    Decoder σ n cap :=
  staleStep P p (gapStep P p D)

/-- The nominal tick count of a duration, `round(duration / TICK_PERIOD)` (R6, R494), both in
nanoseconds, half rounded up (log 6). Informative: the instance's `T_*` need not be nominal. -/
def nominalTicks (durationNs tickPeriodNs : Nat) : Nat :=
  (2 * durationNs + tickPeriodNs) / (2 * tickPeriodNs)

/-! ### The CRSF mirror -/

/-- Whether a frame of type `type` and length byte `len` is extended (R288): the length counts the
type, the payload and the CRC, so a payload of at least 2 bytes is a length of at least 4. -/
def isExtended (p : Params) (type len : Byte) : Bool := p.crsfExtMin ≤ type && 4 ≤ len.toNat

/-- `Mirror(D)` (R287): the mirror after a CRC-valid frame in `D.BUF`. -/
def mirrorOf (p : Params) (D : CrsfDecoder) : Mirror :=
  { xbuf := Vector.ofFn fun i : Fin 64 => if i.val ≤ (D.byte 1).toNat + 1 then D.byte i.val else 0
    type := D.byte 2
    dest := if isExtended p (D.byte 2) (D.byte 1) then D.byte 3 else 0
    orig := if isExtended p (D.byte 2) (D.byte 1) then D.byte 4 else 0
    ext := isExtended p (D.byte 2) (D.byte 1)
    present := true
    len := (D.byte 1).setWidth 6 }

/-! ### The read map -/

/-- CHAN[k] (R43). -/
def chanWord {σ : Type} {n cap : Nat} (D : Decoder σ n cap) (k : Nat) : Word :=
  let B := D.active
  let here := k < B.cnt.toNat
  let value := if here then B.valueAt k else 0
  let ok := decide (here ∧ B.classAt k ≠ .out)
  let cls := if here then (B.classAt k).code else 3#2
  place 32 18 cls ||| place 32 17 (BitVec.ofBool D.valid) ||| place 32 16 (BitVec.ofBool ok) |||
    place 32 0 value

/-- STATUS (R44). -/
def statusWord {σ : Type} {n cap : Nat} (P : Protocol σ) (D : Decoder σ n cap) : Word :=
  place 32 20 D.lastErr.code ||| place 32 16 (P.code D.st) ||| place 32 8 D.active.cnt |||
    place 32 2 D.active.fl ||| place 32 1 (BitVec.ofBool D.has) ||| place 32 0 (BitVec.ofBool D.valid)

/-- COUNTS (R46). -/
def countsWord {σ : Type} {n cap : Nat} (D : Decoder σ n cap) : Word :=
  place 32 16 D.frames ||| place 32 8 D.ckErr ||| place 32 0 D.frmErr

/-- FSMDBG (R47). -/
def fsmdbgWord {σ : Type} {n cap : Nat} (D : Decoder σ n cap) : Word :=
  place 32 16 D.gap ||| place 32 8 D.exp ||| place 32 0 D.idx

/-- LASTFRAME (R49). -/
def lastFrameWord (m : Mirror) : Word :=
  place 32 26 m.len ||| place 32 25 (BitVec.ofBool m.present) ||| place 32 24 (BitVec.ofBool m.ext) |||
    place 32 16 m.orig ||| place 32 8 m.dest ||| place 32 0 m.type

/-- `ReadWord(D, a)` for the addresses all four decoders have (R42, R72); `none` is `ILLEGAL`. -/
def readCommon {σ : Type} {n cap : Nat} (P : Protocol σ) (D : Decoder σ n cap) (a : Byte) :
    Option Word :=
  if a.toNat ≤ 0x1F then some (chanWord D a.toNat)
  else if a = 0x20 then some (statusWord P D)
  else if a = 0x21 then some D.stamp
  else if a = 0x22 then some (countsWord D)
  else if a = 0x23 then some (fsmdbgWord D)
  else if a = 0x24 then some (D.age.setWidth 32)
  else none

/-- `ReadWord(D, a)` for CRSF, which also has LASTFRAME and XBUF (R42, R49, R50, R72). -/
def readCrsf (D : CrsfDecoder) (m : Mirror) (a : Byte) : Option Word :=
  if a = 0x25 then some (lastFrameWord m)
  else if 0x40 ≤ a.toNat ∧ a.toNat ≤ 0x7F then some ((m.xbuf[a.toNat - 0x40]?.getD 0).setWidth 32)
  else readCommon crsfProtocol D a

/-- The end of an `RD.<P>`: the word read, or R410 for a reserved address (R406). -/
def State.answerRead (s : State) : Option Word → State
  | some w => s.setResp (respOk w)
  | none => s.illegal

/-! ### What an RX command of a decoder yields -/

/-- The decoder after a received byte, and the two bits of the response (R105). -/
structure Received (α : Type) where
  decoder : α
  frame : Bool
  pub : Bool
  deriving DecidableEq, Repr

/-- A byte that completed no frame. -/
def Received.quiet {α : Type} (D : α) : Received α := { decoder := D, frame := false, pub := false }

/-- A byte that completed a valid frame and published it. -/
def Received.published {α : Type} (D : α) : Received α := { decoder := D, frame := true, pub := true }

/-- A byte that completed a valid frame and published nothing (R105: CRSF only). -/
def Received.frameOnly {α : Type} (D : α) : Received α := { decoder := D, frame := true, pub := false }

/-- The response of an RX command (R105). -/
def Received.resp {α : Type} (r : Received α) : Response := respOk (rxValue r.frame r.pub)

end Sys2Proof.Machine
end

