-- ==== Sys2Proof/Machine/Crc8Gen.lean ====
section
/-! DEFINITION. The stand-alone CRC-8 generator (R375 to R378): `CRC8.INIT`, `CRC8.FEED`, `CRC8.RD`. -/

namespace Sys2Proof.Machine

/-- The end of a CRC8 command: its response is the accumulator after the command's update (R52). -/
def State.answerCrc8 (s : State) : State := s.setResp (respOk (s.crc8Acc.setWidth 32))

/-- `CRC8.INIT` (R375). -/
def execCrc8Init (s : State) : Host.Outcome State Fault Refusal :=
  .next (s.setCrc8Acc s.params.crc8Init).answerCrc8

/-- `CRC8.FEED b` (R376). -/
def execCrc8Feed (b : Byte) (s : State) : Host.Outcome State Fault Refusal :=
  .next (s.setCrc8Acc (crc8Step s.params.crc8Poly s.crc8Acc b)).answerCrc8

/-- `CRC8.RD` (R377). -/
def execCrc8Rd (s : State) : Host.Outcome State Fault Refusal := .next s.answerCrc8

end Sys2Proof.Machine
end

