-- ==== Sys2Proof/Machine/Crsf.lean ====
section
/-! DEFINITION. The CRSF frame decoder (43_crsf.md): `RX.CRSF`. -/

namespace Sys2Proof.Machine

/-- The CRSF decoder with the two fields it alone holds (R37). -/
structure CrsfUnit where
  decoder : CrsfDecoder
  mirror : Mirror
  deriving DecidableEq, Repr

/-- A byte in `Sync`: the sync byte begins a frame, any other is discarded (R284). -/
def crsfHunt (p : Params) (b : Byte) (D : CrsfDecoder) : CrsfDecoder :=
  if b = p.crsfSync then { D.putByte 0 b with st := .len } else D

/-- A byte in `Len`: a legal length byte starts the CRC, any other is a FramingError (R284, R282). -/
def crsfLength (p : Params) (b : Byte) (D : CrsfDecoder) : CrsfDecoder :=
  if p.crsfLenMin ≤ b ∧ b ≤ p.crsfLenMax then
    { D.putByte 1 b with exp := b, idx := 0, acc := p.crc8Init.setWidth 16, st := .data }
  else framingError crsfProtocol D

/-- A byte in `Data` stored and counted; the last byte, the CRC, is not fed to the CRC. `L − 1` is an
exact integer (R8, R284). -/
def crsfStore (p : Params) (b : Byte) (D : CrsfDecoder) : CrsfDecoder :=
  { D.putByte (2 + D.idx.toNat) b with
    acc := if D.idx.toNat + 1 < D.exp.toNat then
        (crc8Step p.crc8Poly (lowByte D.acc) b).setWidth 16
      else D.acc
    idx := D.idx + 1 }

/-- The publication of an RC-channels frame (R284: `Unpack11`, the classes of R289, Publish with no
flags). -/
def crsfPublish (p : Params) (now : Word) (D : CrsfDecoder) : CrsfDecoder :=
  publish now (crsfDecode D) ((crsfDecode D).map (crsfClass p)) 0b0000 D

/-- A CRC-valid frame, already mirrored and the decoder back in `Sync`: an RC-channels frame of
length byte `len` is published if `len` is 24 and is a FramingError otherwise; any other type is
left to the host (R284, R286, R287). -/
def crsfDeliver (p : Params) (now : Word) (len : Byte) (D : CrsfDecoder) : Received CrsfDecoder :=
  if D.byte 2 = p.crsfTypeRc then
    if len = 24 then .published (crsfPublish p now D)
    else .frameOnly (framingError crsfProtocol D)
  else .frameOnly D

/-- What follows a stored byte `b`: the `L`-th is judged against the CRC (R284, R283). -/
def crsfJudge (p : Params) (now : Word) (b : Byte) (D : CrsfDecoder) (m : Mirror) :
    Received CrsfUnit :=
  if D.idx = D.exp then
    if lowByte D.acc = b then
      let r := crsfDeliver p now D.exp { D with st := .sync, idx := 0, exp := 0 }
      { decoder := { decoder := r.decoder, mirror := mirrorOf p D }, frame := r.frame, pub := r.pub }
    else .quiet { decoder := checksumError crsfProtocol D, mirror := m }
  else .quiet { decoder := D, mirror := m }

/-- One received byte (R284). -/
def crsfReceive (p : Params) (now : Word) (b : Byte) (D : CrsfDecoder) (m : Mirror) :
    Received CrsfUnit :=
  match D.st with
  | .sync => .quiet { decoder := crsfHunt p b D.clearGap, mirror := m }
  | .len => .quiet { decoder := crsfLength p b D.clearGap, mirror := m }
  | .data => crsfJudge p now b (crsfStore p b D.clearGap) m

/-- `RX.CRSF b` (R284). -/
def execRxCrsf (b : Byte) (s : State) : Host.Outcome State Fault Refusal :=
  .next (((s.setCrsf (crsfReceive s.params s.ticks b s.crsf s.mirror).decoder.decoder).setMirror
    (crsfReceive s.params s.ticks b s.crsf s.mirror).decoder.mirror).setResp
    (crsfReceive s.params s.ticks b s.crsf s.mirror).resp)

end Sys2Proof.Machine
end

