-- ==== Sys2Proof/Machine/HostOps.lean ====
section
/-! DEFINITION. The host commands (46_host_ops.md): NOP, TICK, the reads, ABORT, RESET. -/

namespace Sys2Proof.Machine

/-- `NOP` (R400). -/
def execNop (s : State) : Host.Outcome State Fault Refusal := .next (s.setResp (respOk 0))

/-- The tick counter advanced and every decoder's timers run, decoders 0 to 3 (R401, R404). -/
def State.advance (s : State) : State :=
  { s with
    ticks := s.ticks + 1
    sbus := tickDecoder sbusProtocol s.params s.sbus
    ibus := tickDecoder ibusProtocol s.params s.ibus
    crsf := tickDecoder crsfProtocol s.params s.crsf
    sumd := tickDecoder sumdProtocol s.params s.sumd }

/-- `TICK` (R401). -/
def execTick (s : State) : Host.Outcome State Fault Refusal := .next (s.advance.setResp (respOk 0))

/-- `RD.SBUS a` (R406). -/
def execRdSbus (a : Byte) (s : State) : Host.Outcome State Fault Refusal :=
  .next (s.answerRead (readCommon sbusProtocol s.sbus a))

/-- `RD.IBUS a` (R406). -/
def execRdIbus (a : Byte) (s : State) : Host.Outcome State Fault Refusal :=
  .next (s.answerRead (readCommon ibusProtocol s.ibus a))

/-- `RD.CRSF a` (R406). -/
def execRdCrsf (a : Byte) (s : State) : Host.Outcome State Fault Refusal :=
  .next (s.answerRead (readCrsf s.crsf s.mirror a))

/-- `RD.SUMD a` (R406). -/
def execRdSumd (a : Byte) (s : State) : Host.Outcome State Fault Refusal :=
  .next (s.answerRead (readCommon sumdProtocol s.sumd a))

/-- `RD.TIME` (R407, R51). -/
def execRdTime (s : State) : Host.Outcome State Fault Refusal := .next (s.setResp (respOk s.ticks))

/-- `ABORT.SBUS` (R408). -/
def execAbortSbus (s : State) : Host.Outcome State Fault Refusal :=
  .next ((s.setSbus (restart sbusProtocol s.sbus)).setResp (respOk 0))

/-- `ABORT.IBUS` (R408). -/
def execAbortIbus (s : State) : Host.Outcome State Fault Refusal :=
  .next ((s.setIbus (restart ibusProtocol s.ibus)).setResp (respOk 0))

/-- `ABORT.CRSF` (R408). -/
def execAbortCrsf (s : State) : Host.Outcome State Fault Refusal :=
  .next ((s.setCrsf (restart crsfProtocol s.crsf)).setResp (respOk 0))

/-- `ABORT.SUMD` (R408). -/
def execAbortSumd (s : State) : Host.Outcome State Fault Refusal :=
  .next ((s.setSumd (restart sumdProtocol s.sumd)).setResp (respOk 0))

/-- `RESET` (R409): every field takes its reset value of R53. The parameters are kept (R492), and so
are the commands the host has issued after this one (log 17). -/
def execReset (s : State) : Host.Outcome State Fault Refusal :=
  .next (((State.resetWith s.params).setPending s.pending).setResp (respOk 0))

end Sys2Proof.Machine
end

