-- ==== Sys2Proof/Machine/Ibus.lean ====
section
/-! DEFINITION. The IBus-servo decoder (42_ibus.md): `RX.IBUS`. -/

namespace Sys2Proof.Machine

/-- A byte in `Idle`: the first header byte begins a frame and seeds the checksum, any other is
discarded (R243, R241). -/
def ibusHunt (p : Params) (b : Byte) (D : IbusDecoder) : IbusDecoder :=
  if b = p.ibusHdr0 then
    { D.putByte 0 b with acc := sum16Step p.ibusSeed b, idx := 1, st := .hdr }
  else D

/-- A byte in `Hdr`: the second header byte, or a FramingError (R243). -/
def ibusHeader (p : Params) (b : Byte) (D : IbusDecoder) : IbusDecoder :=
  if b = p.ibusHdr1 then
    { D.putByte 1 b with acc := sum16Step D.acc b, idx := 2, st := .data }
  else framingError ibusProtocol D

/-- A byte in `Data` stored and counted; frame bytes 30 and 31, the checksum, are not summed (R243,
R241). -/
def ibusStore (b : Byte) (D : IbusDecoder) : IbusDecoder :=
  { D.putByte D.idx.toNat b with
    acc := if D.idx < 30 then sum16Step D.acc b else D.acc
    idx := D.idx + 1 }

/-- The check of a whole frame (R242). -/
def ibusValid (D : IbusDecoder) : Bool :=
  D.byte 30 = lowByte D.acc ∧ D.byte 31 = highByte D.acc

/-- The publication of a validated frame (R243: `IbusDecode`, the classes of R247, Publish with no
flags). -/
def ibusPublish (p : Params) (now : Word) (D : IbusDecoder) : IbusDecoder :=
  { publish now (ibusDecode p D) ((ibusDecode p D).map (ibusClass p)) 0b0000 D with
    st := .idle, idx := 0 }

/-- What follows a stored byte: the 32nd is judged (R243). -/
def ibusJudge (p : Params) (now : Word) (D : IbusDecoder) : Received IbusDecoder :=
  if D.idx = 32 then
    if ibusValid D then .published (ibusPublish p now D) else .quiet (checksumError ibusProtocol D)
  else .quiet D

/-- One received byte (R243). -/
def ibusReceive (p : Params) (now : Word) (b : Byte) (D : IbusDecoder) : Received IbusDecoder :=
  match D.st with
  | .idle => .quiet (ibusHunt p b D.clearGap)
  | .hdr => .quiet (ibusHeader p b D.clearGap)
  | .data => ibusJudge p now (ibusStore b D.clearGap)

/-- `RX.IBUS b` (R243). -/
def execRxIbus (b : Byte) (s : State) : Host.Outcome State Fault Refusal :=
  .next ((s.setIbus (ibusReceive s.params s.ticks b s.ibus).decoder).setResp
    (ibusReceive s.params s.ticks b s.ibus).resp)

end Sys2Proof.Machine
end

