-- ==== Sys2Proof/Machine/Sbus.lean ====
section
/-! DEFINITION. The SBus decoder (41_sbus.md): `RX.SBUS`. -/

namespace Sys2Proof.Machine

/-- A byte in `Undefined` or `GotEnd`: the start byte begins a frame, any other is discarded (R204,
R205). -/
def sbusHunt (p : Params) (b : Byte) (D : SbusDecoder) : SbusDecoder :=
  if b = p.sbusStart then { D with st := .data, idx := 0 } else { D with st := .undefined }

/-- A payload byte in `Data` (R204). -/
def sbusPayload (b : Byte) (D : SbusDecoder) : SbusDecoder :=
  { D.putByte D.idx.toNat b with
    idx := D.idx + 1
    st := if D.idx + 1 = 23 then .waitEnd else .data }

/-- The publication of a complete SBus frame (R204: `SbusDecode`, the classes of R202, Publish). -/
def sbusPublish (p : Params) (now : Word) (D : SbusDecoder) : SbusDecoder :=
  { publish now (sbusDecode D) ((sbusDecode D).map (sbusClass p)) (sbusFlags D) D with
    st := .gotEnd, idx := 0 }

/-- One received byte (R204). -/
def sbusReceive (p : Params) (now : Word) (b : Byte) (D : SbusDecoder) : Received SbusDecoder :=
  match D.st with
  | .undefined => .quiet (sbusHunt p b D.clearGap)
  | .gotEnd => .quiet (sbusHunt p b D.clearGap)
  | .data => .quiet (sbusPayload b D.clearGap)
  | .waitEnd =>
    if b = p.sbusEnd then .published (sbusPublish p now D.clearGap)
    else .quiet (framingError sbusProtocol D.clearGap)

/-- `RX.SBUS b` (R204). -/
def execRxSbus (b : Byte) (s : State) : Host.Outcome State Fault Refusal :=
  .next ((s.setSbus (sbusReceive s.params s.ticks b s.sbus).decoder).setResp
    (sbusReceive s.params s.ticks b s.sbus).resp)

end Sys2Proof.Machine
end

