-- ==== Sys2Proof/Machine/Sumd.lean ====
section
/-! DEFINITION. The SumD decoder (44_sumd.md): `RX.SUMD`. -/

namespace Sys2Proof.Machine

/-- A byte in `Sync`: the sync byte begins a frame and its CRC, any other is discarded (R333). -/
def sumdHunt (p : Params) (b : Byte) (D : SumdDecoder) : SumdDecoder :=
  if b = p.sumdSync then
    { D.putByte 0 b with acc := crc16Step p.sumdCrcPoly p.sumdCrcInit b, st := .status }
  else D

/-- A byte in `Status`: one of the two legal status bytes, or a FramingError (R333, R332). -/
def sumdStatus (p : Params) (b : Byte) (D : SumdDecoder) : SumdDecoder :=
  if b = p.sumdStNormal ∨ b = p.sumdStFailsafe then
    { D.putByte 1 b with acc := crc16Step p.sumdCrcPoly D.acc b, st := .count }
  else framingError sumdProtocol D

/-- A byte in `Count`: a legal channel count, or a FramingError (R333, R332). -/
def sumdCount (p : Params) (b : Byte) (D : SumdDecoder) : SumdDecoder :=
  if p.sumdMinCh ≤ b ∧ b ≤ p.sumdMaxCh then
    { D.putByte 2 b with
      exp := b, idx := 0, acc := crc16Step p.sumdCrcPoly D.acc b, st := .data }
  else framingError sumdProtocol D

/-- A byte in `Data` stored and counted; the two CRC bytes are not fed to the CRC (R333, R331). -/
def sumdStore (p : Params) (b : Byte) (D : SumdDecoder) : SumdDecoder :=
  { D.putByte (3 + D.idx.toNat) b with
    acc := if D.idx.toNat < 2 * D.exp.toNat then crc16Step p.sumdCrcPoly D.acc b else D.acc
    idx := D.idx + 1 }

/-- The check of a whole frame of `n` channels (R331). -/
def sumdValid (n : Nat) (D : SumdDecoder) : Bool :=
  beHalf (D.byte (3 + 2 * n)) (D.byte (4 + 2 * n)) = D.acc

/-- The publication of a validated frame of `n` channels (R333: the channels of R334, the classes of
R335, the flags of R336, Publish). -/
def sumdPublish (p : Params) (now : Word) (n : Nat) (D : SumdDecoder) : SumdDecoder :=
  { publish now (sumdDecode n D) ((sumdDecode n D).map (sumdClass p)) (sumdFlags p D) D with
    st := .sync, idx := 0, exp := 0 }

/-- What follows a stored byte: the last of the `2n + 2` is judged (R333). -/
def sumdJudge (p : Params) (now : Word) (D : SumdDecoder) : Received SumdDecoder :=
  if D.idx.toNat = 2 * D.exp.toNat + 2 then
    if sumdValid D.exp.toNat D then .published (sumdPublish p now D.exp.toNat D)
    else .quiet (checksumError sumdProtocol D)
  else .quiet D

/-- One received byte (R333). -/
def sumdReceive (p : Params) (now : Word) (b : Byte) (D : SumdDecoder) : Received SumdDecoder :=
  match D.st with
  | .sync => .quiet (sumdHunt p b D.clearGap)
  | .status => .quiet (sumdStatus p b D.clearGap)
  | .count => .quiet (sumdCount p b D.clearGap)
  | .data => sumdJudge p now (sumdStore p b D.clearGap)

/-- `RX.SUMD b` (R333). -/
def execRxSumd (b : Byte) (s : State) : Host.Outcome State Fault Refusal :=
  .next ((s.setSumd (sumdReceive s.params s.ticks b s.sumd).decoder).setResp
    (sumdReceive s.params s.ticks b s.sumd).resp)

end Sys2Proof.Machine
end

