-- ==== Sys2Proof/Machine/Dispatch.lean ====
section
/-! DEFINITION. The meaning of every command (R101), one arm per constructor. -/

namespace Sys2Proof.Machine

def exec (i : Instr) (s : State) : Host.Outcome State Fault Refusal :=
  match i with
  | .nop => Sys2Proof.Machine.execNop s
  | .rxSbus b => Sys2Proof.Machine.execRxSbus b s
  | .rxIbus b => Sys2Proof.Machine.execRxIbus b s
  | .rxCrsf b => Sys2Proof.Machine.execRxCrsf b s
  | .rxSumd b => Sys2Proof.Machine.execRxSumd b s
  | .tick => Sys2Proof.Machine.execTick s
  | .rdSbus a => Sys2Proof.Machine.execRdSbus a s
  | .rdIbus a => Sys2Proof.Machine.execRdIbus a s
  | .rdCrsf a => Sys2Proof.Machine.execRdCrsf a s
  | .rdSumd a => Sys2Proof.Machine.execRdSumd a s
  | .crc8Init => Sys2Proof.Machine.execCrc8Init s
  | .crc8Feed b => Sys2Proof.Machine.execCrc8Feed b s
  | .crc8Rd => Sys2Proof.Machine.execCrc8Rd s
  | .rdTime => Sys2Proof.Machine.execRdTime s
  | .abortSbus => Sys2Proof.Machine.execAbortSbus s
  | .abortIbus => Sys2Proof.Machine.execAbortIbus s
  | .abortCrsf => Sys2Proof.Machine.execAbortCrsf s
  | .abortSumd => Sys2Proof.Machine.execAbortSumd s
  | .reset => Sys2Proof.Machine.execReset s

end Sys2Proof.Machine
end

