-- ==== Sys2Proof/Machine/Command.lean ====
section
/-! DEFINITION. The execution of command words: one word (R107), the next one the host has issued,
and a sequence of commands (R84). -/

namespace Sys2Proof.Machine

/-- One command word: the command of its row, or R410 if it is illegal (R107, R103). -/
def executeWord (w : CmdWord) (s : State) : Host.Outcome State Fault Refusal :=
  match decode w with
  | .ok i => exec i s
  | .error _ => .next s.illegal

/-- The command the block executes next, the oldest the host has issued, and the state once it is
taken (R31, R84; log 1). -/
def fetch (s : State) : Option (CmdWord × State) :=
  match s.pending with
  | [] => none
  | w :: rest => some (w, s.setPending rest)

/-- A word put before every waiting command, so that it is the next one taken (log 1). -/
def State.issueFirst (s : State) (w : CmdWord) : State := s.setPending (w :: s.pending)

/-- The outcome of `f` in the next state, if there is one. -/
def andThen {α β : Type} (o : Host.Outcome α Fault Refusal) (f : α → Host.Outcome β Fault Refusal) :
    Host.Outcome β Fault Refusal :=
  match o with
  | .next s => f s
  | .fault r => .fault r
  | .refused r => .refused r

/-- The commands of a list, in order, each complete before the next starts (R84). -/
def execAll : List Instr → State → Host.Outcome State Fault Refusal
  | [], s => .next s
  | i :: is, s => andThen (exec i s) (execAll is)

/-- The command words of a list, in order (R84). -/
def executeWords : List CmdWord → State → Host.Outcome State Fault Refusal
  | [], s => .next s
  | w :: ws, s => andThen (executeWord w s) (executeWords ws)

end Sys2Proof.Machine
end

