-- ==== Sys2Proof/Machine/Step.lean ====
section
/-! DEFINITION. One step: the next command the host has issued is executed, complete in its step
(R5, R84). -/

namespace Sys2Proof.Machine

/-- One step. With no command waiting, the block keeps its state (R465; log 1). -/
def step (s : State) : Host.Outcome State Fault Refusal :=
  match fetch s with
  | some (w, s') => executeWord w s'
  | none => .next s

/-- The state in which the host has issued the command of table bits `w` to run next (log 1). -/
def State.withFetchWord (s : State) (nbits w : Nat) : State := s.issueFirst (storedWord nbits w)

end Sys2Proof.Machine
end

