-- ==== Sys2Proof/Machine/Pseudo.lean ====
section
/-! DEFINITION. The pseudo-instructions of R115 and the wire frames they send (R109 to R112). The
constant bytes of a frame are read from the parameters those rules name; they are R115's bytes at the
defaults (log 15). -/

namespace Sys2Proof.Machine

/-- The 25 bytes of an SBus frame (R109): sixteen channels and the flags byte. -/
def sbusFrame (p : Params) (ch : List Half) (fl : Byte) : List Byte :=
  p.sbusStart :: pack11 ch ++ [fl, p.sbusEnd]

/-- The bytes of an IBus frame before its checksum (R110). -/
def ibusBody (p : Params) (ch : List Half) : List Byte :=
  p.ibusHdr0 :: p.ibusHdr1 :: ch.flatMap fun c => [lowByte c, highByte c]

/-- The 32 bytes of an IBus-servo frame of 14 channels (R110). -/
def ibusFrame (p : Params) (ch : List Half) : List Byte :=
  ibusBody p ch ++
    [lowByte (ibusSum p.ibusSeed (ibusBody p ch)), highByte (ibusSum p.ibusSeed (ibusBody p ch))]

/-- The bytes of a CRSF frame (R111): its type and its payload. -/
def crsfFrame (p : Params) (type : Byte) (payload : List Byte) : List Byte :=
  p.crsfSync :: BitVec.ofNat 8 (payload.length + 2) :: type :: payload ++
    [crc8 p.crc8Poly p.crc8Init (type :: payload)]

/-- The bytes of a SumD frame before its CRC (R112). -/
def sumdBody (p : Params) (st : Byte) (ch : List Half) : List Byte :=
  p.sumdSync :: st :: BitVec.ofNat 8 ch.length :: ch.flatMap fun c => [highByte c, lowByte c]

/-- The bytes of a SumD frame (R112): its status byte and its channels. -/
def sumdFrame (p : Params) (st : Byte) (ch : List Half) : List Byte :=
  sumdBody p st ch ++
    [highByte (crc16 p.sumdCrcPoly p.sumdCrcInit (sumdBody p st ch)),
     lowByte (crc16 p.sumdCrcPoly p.sumdCrcInit (sumdBody p st ch))]

/-- `RXS.SBUS b0, …, bm` (R115). -/
def rxsSbus (bytes : List Byte) : List Instr := bytes.map .rxSbus

/-- `RXS.IBUS b0, …, bm` (R115). -/
def rxsIbus (bytes : List Byte) : List Instr := bytes.map .rxIbus

/-- `RXS.CRSF b0, …, bm` (R115). -/
def rxsCrsf (bytes : List Byte) : List Instr := bytes.map .rxCrsf

/-- `RXS.SUMD b0, …, bm` (R115). -/
def rxsSumd (bytes : List Byte) : List Instr := bytes.map .rxSumd

/-- `TICKS n` (R115). -/
def ticksOf (n : Nat) : List Instr := List.replicate n .tick

/-- `CRC8.BLOCK b0, …, bm` (R115). -/
def crc8Block (bytes : List Byte) : List Instr := .crc8Init :: bytes.map .crc8Feed

end Sys2Proof.Machine
end

