-- ==== Sys2Proof/Machine/Assembler.lean ====
section
/-! DEFINITION. The assembly syntax of R114 and R115: one line of text to command words, or an
assembly error, which produces no word. Text is a list of characters. Lexical detail the rules leave
open is a DESIGN CHOICE (log 14). -/

namespace Sys2Proof.Machine

/-- Why a line is not assembled (R114). -/
inductive AsmError where
  /-- No mnemonic of R101 and no pseudo-instruction of R115. -/
  | unknownMnemonic
  /-- Not a number and, for a read, not a symbol of R114. -/
  | badOperand
  /-- Too few or too many operands. -/
  | operandCount
  /-- An operand that does not fit its width. -/
  | doesNotFit
  deriving DecidableEq, Repr

/-- A line without its comment: `;` begins one (R114). -/
def stripComment (line : List Char) : List Char := line.takeWhile (· ≠ ';')

/-- A space between two words of a line. -/
def isBlank (c : Char) : Bool := c = ' ' || c = '\t'

/-- The pieces of a text between separators, in order, empty ones included; `piece` is the piece
being read, reversed. -/
def splitAtSep (sep : Char → Bool) (piece : List Char) : List Char → List (List Char)
  | [] => [piece.reverse]
  | c :: cs => if sep c then piece.reverse :: splitAtSep sep [] cs else splitAtSep sep (c :: piece) cs

/-- The words of a text: its non-empty pieces between blanks. -/
def wordsOf (text : List Char) : List (List Char) :=
  (splitAtSep isBlank [] text).filter fun w => !w.isEmpty

/-- The value of a decimal digit. -/
def decDigit (c : Char) : Option Nat :=
  if '0'.toNat ≤ c.toNat ∧ c.toNat ≤ '9'.toNat then some (c.toNat - '0'.toNat) else none

/-- The value of a hexadecimal digit, in either case. -/
def hexDigit (c : Char) : Option Nat :=
  if 'a'.toNat ≤ c.toNat ∧ c.toNat ≤ 'f'.toNat then some (c.toNat - 'a'.toNat + 10)
  else if 'A'.toNat ≤ c.toNat ∧ c.toNat ≤ 'F'.toNat then some (c.toNat - 'A'.toNat + 10)
  else decDigit c

/-- The value of a run of digits after the value `v` of those before. -/
def digits (base : Nat) (digit : Char → Option Nat) (v : Nat) : List Char → Option Nat
  | [] => some v
  | c :: cs => (digit c).bind fun d => digits base digit (base * v + d) cs

/-- A number, in decimal or in hexadecimal with a `0x` prefix (R114). -/
def number : List Char → Option Nat
  | [] => none
  | ['0', 'x'] => none
  | '0' :: 'x' :: cs => digits 16 hexDigit 0 cs
  | cs => digits 10 decDigit 0 cs

/-- An operand that must fit in `width` bits (R114). -/
def fitted (width : Nat) (v : Nat) : Except AsmError (BitVec width) :=
  if v < 2 ^ width then .ok (BitVec.ofNat width v) else .error .doesNotFit

/-- An operand that is a number. -/
def numberOperand (words : List (List Char)) : Except AsmError Nat :=
  match words with
  | [w] => (number w).elim (.error .badOperand) .ok
  | _ => .error .badOperand

/-- An operand of `width` bits that is a number. -/
def operand (width : Nat) (words : List (List Char)) : Except AsmError (BitVec width) :=
  (numberOperand words).bind (fitted width)

/-- A symbol with an index below a bound (R114). -/
def indexed (base bound : Nat) (w : List Char) : Except AsmError Byte :=
  match number w with
  | some k => if k < bound then .ok (BitVec.ofNat 8 (base + k)) else .error .doesNotFit
  | none => .error .badOperand

/-- The operand of an `RD.<P>`: a number, or a symbol of R114. -/
def readOperand (words : List (List Char)) : Except AsmError Byte :=
  match words with
  | [w, k] =>
    if w = "CHAN".toList then indexed 0x00 32 k
    else if w = "XBUF".toList then indexed 0x40 64 k
    else .error .badOperand
  | [w] =>
    if w = "STATUS".toList then .ok 0x20
    else if w = "STAMP".toList then .ok 0x21
    else if w = "COUNTS".toList then .ok 0x22
    else if w = "FSMDBG".toList then .ok 0x23
    else if w = "AGE".toList then .ok 0x24
    else if w = "LASTFRAME".toList then .ok 0x25
    else operand 8 [w]
  | _ => .error .badOperand

/-- The operands of a line, separated by commas, each as its words; none if nothing follows the
mnemonic. -/
def operandsOf (rest : List Char) : List (List (List Char)) :=
  if (wordsOf rest).isEmpty then [] else (splitAtSep (· = ',') [] rest).map wordsOf

/-- A command without an operand. -/
def noOperand (i : Instr) : List (List (List Char)) → Except AsmError (List Instr)
  | [] => .ok [i]
  | _ => .error .operandCount

/-- A command with one byte operand, read by `read`. -/
def oneOperand (read : List (List Char) → Except AsmError Byte) (i : Byte → Instr) :
    List (List (List Char)) → Except AsmError (List Instr)
  | [o] => (read o).map fun b => [i b]
  | _ => .error .operandCount

/-- Every operand of a list as a number of `width` bits. -/
def allOperands (width : Nat) : List (List (List Char)) → Except AsmError (List (BitVec width))
  | [] => .ok []
  | o :: os => (operand width o).bind fun v => (allOperands width os).map fun vs => v :: vs

/-- A pseudo-instruction over at least one byte (R115). -/
def byteBlock (f : List Byte → List Instr) (os : List (List (List Char))) :
    Except AsmError (List Instr) :=
  if os.isEmpty then .error .operandCount else (allOperands 8 os).map f

/-- `TICKS n` (R115). -/
def ticksLine : List (List (List Char)) → Except AsmError (List Instr)
  | [o] => (numberOperand o).map ticksOf
  | _ => .error .operandCount

/-- `SBUS.FRAME c0, …, c15, fl` (R115): sixteen 11-bit values and a byte. -/
def sbusFrameLine (p : Params) (os : List (List (List Char))) : Except AsmError (List Instr) :=
  if os.length = 17 then
    (allOperands 11 (os.take 16)).bind fun ch => (allOperands 8 (os.drop 16)).map fun fl =>
      rxsSbus (sbusFrame p (ch.map (BitVec.setWidth 16)) (fl.headD 0))
  else .error .operandCount

/-- `IBUS.FRAME c0, …, c13` (R115): fourteen 16-bit values. -/
def ibusFrameLine (p : Params) (os : List (List (List Char))) : Except AsmError (List Instr) :=
  if os.length = 14 then (allOperands 16 os).map fun ch => rxsIbus (ibusFrame p ch)
  else .error .operandCount

/-- `CRSF.FRAME t, p0, …, pm` (R115): a type and a payload, possibly none, whose length byte fits. -/
def crsfFrameLine (p : Params) (os : List (List (List Char))) : Except AsmError (List Instr) :=
  if 1 ≤ os.length ∧ os.length + 1 ≤ 255 then
    (allOperands 8 os).map fun bs => rxsCrsf (crsfFrame p (bs.headD 0) bs.tail)
  else .error .operandCount

/-- `SUMD.FRAME st, c0, …, c(n−1)` (R115): a status byte and 16-bit channels, whose count fits. -/
def sumdFrameLine (p : Params) (os : List (List (List Char))) : Except AsmError (List Instr) :=
  if 2 ≤ os.length ∧ os.length ≤ 256 then
    (allOperands 8 (os.take 1)).bind fun st => (allOperands 16 (os.drop 1)).map fun ch =>
      rxsSumd (sumdFrame p (st.headD 0) ch)
  else .error .operandCount

/-- The commands of a mnemonic of R101 or a pseudo-instruction of R115, given its operands. -/
def assembleMnemonic (p : Params) (m : List Char) (os : List (List (List Char))) :
    Except AsmError (List Instr) :=
  if m = "NOP".toList then noOperand .nop os
  else if m = "RX.SBUS".toList then oneOperand (operand 8) .rxSbus os
  else if m = "RX.IBUS".toList then oneOperand (operand 8) .rxIbus os
  else if m = "RX.CRSF".toList then oneOperand (operand 8) .rxCrsf os
  else if m = "RX.SUMD".toList then oneOperand (operand 8) .rxSumd os
  else if m = "TICK".toList then noOperand .tick os
  else if m = "RD.SBUS".toList then oneOperand readOperand .rdSbus os
  else if m = "RD.IBUS".toList then oneOperand readOperand .rdIbus os
  else if m = "RD.CRSF".toList then oneOperand readOperand .rdCrsf os
  else if m = "RD.SUMD".toList then oneOperand readOperand .rdSumd os
  else if m = "CRC8.INIT".toList then noOperand .crc8Init os
  else if m = "CRC8.FEED".toList then oneOperand (operand 8) .crc8Feed os
  else if m = "CRC8.RD".toList then noOperand .crc8Rd os
  else if m = "RD.TIME".toList then noOperand .rdTime os
  else if m = "ABORT.SBUS".toList then noOperand .abortSbus os
  else if m = "ABORT.IBUS".toList then noOperand .abortIbus os
  else if m = "ABORT.CRSF".toList then noOperand .abortCrsf os
  else if m = "ABORT.SUMD".toList then noOperand .abortSumd os
  else if m = "RESET".toList then noOperand .reset os
  else if m = "RXS.SBUS".toList then byteBlock rxsSbus os
  else if m = "RXS.IBUS".toList then byteBlock rxsIbus os
  else if m = "RXS.CRSF".toList then byteBlock rxsCrsf os
  else if m = "RXS.SUMD".toList then byteBlock rxsSumd os
  else if m = "TICKS".toList then ticksLine os
  else if m = "CRC8.BLOCK".toList then byteBlock crc8Block os
  else if m = "SBUS.FRAME".toList then sbusFrameLine p os
  else if m = "IBUS.FRAME".toList then ibusFrameLine p os
  else if m = "CRSF.FRAME".toList then crsfFrameLine p os
  else if m = "SUMD.FRAME".toList then sumdFrameLine p os
  else .error .unknownMnemonic

/-- The text of a line after its leading blanks. -/
def afterBlanks (text : List Char) : List Char := text.dropWhile isBlank

/-- One line of assembly (R114, R115) as command words. A line with nothing but blanks and a comment
gives none. -/
def assembleLine (p : Params) (line : List Char) : Except AsmError (List CmdWord) :=
  let text := afterBlanks (stripComment line)
  if text.isEmpty then .ok []
  else
    (assembleMnemonic p (text.takeWhile fun c => !isBlank c)
      (operandsOf (text.dropWhile fun c => !isBlank c))).map fun is => is.map encode

end Sys2Proof.Machine
end

