-- ==== Sys2Proof/Machine/Port.lean ====
section
/-! DEFINITION. The port-level mapping (R108): the inputs of one rising clock edge, the commands the
edge executes in their fixed order, and its outputs. -/

namespace Sys2Proof.Machine

/-- The inputs sampled at one rising edge of `clk` (R108). `rx_valid[P]` and `rx_data[P]` are one
optional byte, `cmd_valid` and `cmd` one optional word. -/
structure PortInput where
  rst : Bool
  tick : Bool
  rxSbus : Option Byte
  rxIbus : Option Byte
  rxCrsf : Option Byte
  rxSumd : Option Byte
  cmd : Option CmdWord
  deriving DecidableEq, Repr

/-- The outputs of one edge (R108): the response of the `cmd` word, if one was presented and executed
(log 12), and the `rx_pub[P]` pulses. -/
structure PortOutput where
  resp : Option Response
  pubSbus : Bool
  pubIbus : Bool
  pubCrsf : Bool
  pubSumd : Bool
  deriving DecidableEq, Repr

/-- Whether a command word is a read in the sense of R108: `RD.*`, `RD.TIME` or `CRC8.RD`. A word of
no row is not one (log 13). -/
def isReadWord (w : CmdWord) : Bool :=
  match decode w with
  | .ok (.rdSbus _) | .ok (.rdIbus _) | .ok (.rdCrsf _) | .ok (.rdSumd _) => true
  | .ok .rdTime | .ok .crc8Rd => true
  | _ => false

/-- The `cmd` word of an edge, if it is a read: the first thing the edge executes (R108). -/
def PortInput.readCmd (e : PortInput) : Option CmdWord := e.cmd.filter isReadWord

/-- The `cmd` word of an edge, if it is not a read: the last thing the edge executes (R108). -/
def PortInput.otherCmd (e : PortInput) : Option CmdWord := e.cmd.filter fun w => !isReadWord w

/-- The command words one edge executes, in order (R108). -/
def portCommands (e : PortInput) : List CmdWord :=
  if e.rst then [encode .reset]
  else
    e.readCmd.toList ++ (if e.tick then [encode .tick] else []) ++
    (e.rxSbus.map fun b => encode (.rxSbus b)).toList ++
    (e.rxIbus.map fun b => encode (.rxIbus b)).toList ++
    (e.rxCrsf.map fun b => encode (.rxCrsf b)).toList ++
    (e.rxSumd.map fun b => encode (.rxSumd b)).toList ++
    e.otherCmd.toList

/-- One place in an edge's order: the word there, if any, is executed, and its response kept. -/
def portStage (w : Option CmdWord) (s : State) :
    Host.Outcome (State × Option Response) Fault Refusal :=
  match w with
  | none => .next (s, none)
  | some w => andThen (executeWord w s) fun t => .next (t, some t.resp)

/-- `rx_pub[P]`: bit 1 of the edge's RX response for the decoder (R108, R105). -/
def pubPulse (r : Option Response) : Bool := r.any fun r => r.value.getLsbD 1

/-- One rising edge (R108). With `rst` the edge executes RESET and nothing else. -/
def clockEdge (e : PortInput) (s : State) : Host.Outcome (State × PortOutput) Fault Refusal :=
  if e.rst then
    andThen (executeWord (encode .reset) s) fun t => .next (t, ⟨none, false, false, false, false⟩)
  else
    andThen (portStage e.readCmd s) fun (s1, r1) =>
    andThen (portStage (if e.tick then some (encode .tick) else none) s1) fun (s2, _) =>
    andThen (portStage (e.rxSbus.map fun b => encode (.rxSbus b)) s2) fun (s3, p0) =>
    andThen (portStage (e.rxIbus.map fun b => encode (.rxIbus b)) s3) fun (s4, p1) =>
    andThen (portStage (e.rxCrsf.map fun b => encode (.rxCrsf b)) s4) fun (s5, p2) =>
    andThen (portStage (e.rxSumd.map fun b => encode (.rxSumd b)) s5) fun (s6, p3) =>
    andThen (portStage e.otherCmd s6) fun (s7, r2) =>
    .next (s7, ⟨r1.or r2, pubPulse p0, pubPulse p1, pubPulse p2, pubPulse p3⟩)

end Sys2Proof.Machine
end

