-- ==== Sys2Proof/WellFormed.lean ====
section
/-! DEFINITION. What makes a command and a set of construction parameters well formed. An ill-formed
command still decodes and executes: it is R103's word illegal "by value", and R410 is its meaning. -/

namespace Sys2Proof

/-- The status words every decoder has: CHAN[0..31] at 0x00 to 0x1F, STATUS, STAMP, COUNTS, FSMDBG
and AGE at 0x20 to 0x24 (R42). -/
def commonAddress (a : Byte) : Bool := a.toNat ≤ 0x24

/-- The status words only CRSF has: LASTFRAME at 0x25, XBUF[0..63] at 0x40 to 0x7F (R42). -/
def crsfAddress (a : Byte) : Bool :=
  a.toNat = 0x25 || (0x40 ≤ a.toNat && a.toNat ≤ 0x7F)

/-- A command is well formed unless it is an `RD.<P>` of an address that R42 reserves for `P`. -/
def Instr.wellFormed : Instr → Bool
  | .rdSbus a | .rdIbus a | .rdSumd a => commonAddress a
  | .rdCrsf a => commonAddress a || crsfAddress a
  | .nop | .rxSbus _ | .rxIbus _ | .rxCrsf _ | .rxSumd _ | .tick | .crc8Init | .crc8Feed _ | .crc8Rd
  | .rdTime | .abortSbus | .abortIbus | .abortCrsf | .abortSumd | .reset => true

/-- The bounds a legal set of parameters keeps: a CRSF frame holds a type and a CRC and fits the
64-byte buffer (R281, R282), a SumD frame holds 1 to 32 channels (R76, R330). DEDUCED (log 9). -/
def Params.wellFormed (p : Params) : Bool :=
  2 ≤ p.crsfLenMin.toNat && p.crsfLenMax.toNat + 2 ≤ Config.crsfMaxFrame &&
  1 ≤ p.sumdMinCh.toNat && p.sumdMaxCh.toNat ≤ 32

end Sys2Proof
end

