-- ==== Sys2Proof/Safety.lean ====
section
/-! DEFINITION. The terms the claims use: what every reachable state keeps, which parts of a state no
rule can tell apart, and the rules of the status words and of TICK written out field by field. -/

namespace Sys2Proof.Machine

section
variable {σ : Type} {n cap : Nat}

/-! ### What every reachable state keeps -/

/-- The timers of a decoder (R402, R403, R405): an idle decoder has no gap, a gap stays below its
timeout, a valid frame is younger than its timeout, an invalid one of before is exactly that old, and
a decoder that has published nothing shows zeros (R45). -/
def Decoder.TimersOk (P : Protocol σ) (p : Params) (D : Decoder σ n cap) : Prop :=
  (P.isIdle D.st = true → D.gap = 0) ∧
  (D.gap = 0 ∨ D.gap < P.tByte p) ∧
  (D.valid = true → D.has = true ∧ (D.age = 0 ∨ D.age < P.tStale p)) ∧
  (D.has = true → D.valid = false → D.age = P.tStale p ∧ P.tStale p ≠ 0) ∧
  (D.has = false → D.age = 0 ∧ D.stamp = 0 ∧ D.frames = 0)

/-- A bank whose every channel carries the class its protocol gives its value (R202, R247, R289,
R335), within the bank's capacity. -/
def Bank.Marked (classify : Half → ChanClass) (B : Bank cap) : Prop :=
  B.cnt.toNat ≤ cap ∧ ∀ k, k < B.cnt.toNat → B.classAt k = classify (B.valueAt k)

/-- A Channel Store both of whose banks are marked, whose visible bank is empty until a frame is
published and holds a legal number of channels after. -/
def Decoder.StoreOk (classify : Half → ChanClass) (legalCount : Nat → Prop) (D : Decoder σ n cap) :
    Prop :=
  D.bank0.Marked classify ∧ D.bank1.Marked classify ∧
  (D.has = true → legalCount D.active.cnt.toNat) ∧
  (D.has = false → D.active.cnt = 0 ∧ D.active.fl = 0)

/-- Every channel of a bank is an 11-bit value (R35, R78). -/
def Bank.ElevenBit (B : Bank cap) : Prop := ∀ k, k < B.cnt.toNat → (B.valueAt k).toNat < 2048

end

/-- The SBus decoder in a run (R200, R204): `D.EXP` and `D.ACC` stay 0, and `D.IDX` fits the state. -/
def SbusOk (p : Params) (D : SbusDecoder) : Prop :=
  D.TimersOk sbusProtocol p ∧ D.StoreOk (sbusClass p) (fun c => c = 16) ∧
  D.bank0.ElevenBit ∧ D.bank1.ElevenBit ∧ D.exp = 0 ∧ D.acc = 0 ∧
  match D.st with
  | .undefined => D.idx = 0
  | .data => D.idx.toNat < 23
  | .waitEnd => D.idx = 23
  | .gotEnd => D.idx = 0 ∧ D.has = true

/-- The IBus decoder in a run (R240, R243): `D.EXP` stays 0, the header bytes are in the buffer, no
flag is ever set (R39). -/
def IbusOk (p : Params) (D : IbusDecoder) : Prop :=
  D.TimersOk ibusProtocol p ∧ D.StoreOk (ibusClass p) (fun c => c = 18) ∧
  D.bank0.fl = 0 ∧ D.bank1.fl = 0 ∧ D.exp = 0 ∧
  match D.st with
  | .idle => D.idx = 0
  | .hdr => D.idx = 1 ∧ D.byte 0 = p.ibusHdr0
  | .data => 2 ≤ D.idx.toNat ∧ D.idx.toNat < 32 ∧ D.byte 0 = p.ibusHdr0 ∧ D.byte 1 = p.ibusHdr1

/-- The CRSF decoder in a run (R280, R284): `D.ACC[15:8]` stays 0, the length byte is legal and in
the buffer. -/
def CrsfOk (p : Params) (D : CrsfDecoder) : Prop :=
  D.TimersOk crsfProtocol p ∧ D.StoreOk (crsfClass p) (fun c => c = 16) ∧
  D.bank0.ElevenBit ∧ D.bank1.ElevenBit ∧ D.bank0.fl = 0 ∧ D.bank1.fl = 0 ∧ D.acc.toNat < 256 ∧
  match D.st with
  | .sync => D.idx = 0 ∧ D.exp = 0
  | .len => D.idx = 0 ∧ D.exp = 0 ∧ D.byte 0 = p.crsfSync
  | .data =>
    p.crsfLenMin ≤ D.exp ∧ D.exp ≤ p.crsfLenMax ∧ D.idx < D.exp ∧
    D.byte 0 = p.crsfSync ∧ D.byte 1 = D.exp

/-- The SumD decoder in a run (R330, R333): the count is legal and in the buffer, as is the status;
only FAILSAFE is ever set (R336). -/
def SumdOk (p : Params) (D : SumdDecoder) : Prop :=
  D.TimersOk sumdProtocol p ∧
  D.StoreOk (sumdClass p) (fun c => p.sumdMinCh.toNat ≤ c ∧ c ≤ p.sumdMaxCh.toNat) ∧
  D.bank0.fl &&& 7 = 0 ∧ D.bank1.fl &&& 7 = 0 ∧
  match D.st with
  | .sync => D.idx = 0 ∧ D.exp = 0
  | .status => D.idx = 0 ∧ D.exp = 0 ∧ D.byte 0 = p.sumdSync
  | .count =>
    D.idx = 0 ∧ D.exp = 0 ∧ D.byte 0 = p.sumdSync ∧
    (D.byte 1 = p.sumdStNormal ∨ D.byte 1 = p.sumdStFailsafe)
  | .data =>
    p.sumdMinCh ≤ D.exp ∧ D.exp ≤ p.sumdMaxCh ∧ D.idx.toNat < 2 * D.exp.toNat + 2 ∧
    D.byte 0 = p.sumdSync ∧ (D.byte 1 = p.sumdStNormal ∨ D.byte 1 = p.sumdStFailsafe) ∧
    D.byte 2 = D.exp

/-- `D.XBUF[i]`. -/
def Mirror.byte (m : Mirror) (i : Nat) : Byte := m.xbuf[i]?.getD 0

/-- The CRSF mirror in a run (R37, R287, R288): empty until a frame was mirrored, and after that a
frame of legal length, zero-filled, described by `D.LF`. -/
def MirrorOk (p : Params) (m : Mirror) : Prop :=
  (m.present = false → m = Mirror.reset) ∧
  (m.present = true →
    p.crsfLenMin.toNat ≤ m.len.toNat ∧ m.len.toNat ≤ p.crsfLenMax.toNat ∧
    m.byte 0 = p.crsfSync ∧ m.byte 1 = m.len.setWidth 8 ∧ m.byte 2 = m.type ∧
    (∀ i, i < 64 → m.len.toNat + 1 < i → m.byte i = 0) ∧
    m.ext = isExtended p m.type (m.len.setWidth 8) ∧
    m.dest = (if m.ext then m.byte 3 else 0) ∧ m.orig = (if m.ext then m.byte 4 else 0))

/-- What every state of a run of a well-formed instance keeps. -/
def State.Inv (s : State) : Prop :=
  s.params.wellFormed = true ∧ SbusOk s.params s.sbus ∧ IbusOk s.params s.ibus ∧
  CrsfOk s.params s.crsf ∧ MirrorOk s.params s.mirror ∧ SumdOk s.params s.sumd

/-- The running checksum of a partial IBus frame is the sum of the bytes received, the checksum bytes
left out (R241). -/
def IbusSummed (p : Params) (D : IbusDecoder) : Prop :=
  D.st = .idle ∨ D.acc = ibusSum p.ibusSeed (D.bytes 0 (min D.idx.toNat 30))

/-- The running CRC-8 of a partial CRSF frame is that of the type and payload bytes received (R283). -/
def CrsfSummed (p : Params) (D : CrsfDecoder) : Prop :=
  D.st = .data →
    D.acc = (crc8 p.crc8Poly p.crc8Init (D.bytes 2 (min D.idx.toNat (D.exp.toNat - 1)))).setWidth 16

/-- The running CRC-16 of a partial SumD frame is that of every byte received before the CRC (R331). -/
def SumdSummed (p : Params) (D : SumdDecoder) : Prop :=
  match D.st with
  | .sync => True
  | .status => D.acc = crc16 p.sumdCrcPoly p.sumdCrcInit (D.bytes 0 1)
  | .count => D.acc = crc16 p.sumdCrcPoly p.sumdCrcInit (D.bytes 0 2)
  | .data =>
    D.acc = crc16 p.sumdCrcPoly p.sumdCrcInit (D.bytes 0 (3 + min D.idx.toNat (2 * D.exp.toNat)))

/-- The mirrored frame carries its own CRC-8 (R37, R283). -/
def MirrorSummed (p : Params) (m : Mirror) : Prop :=
  m.present = true →
    m.byte (m.len.toNat + 1) =
      crc8 p.crc8Poly p.crc8Init ((List.range (m.len.toNat - 1)).map fun i => m.byte (2 + i))

/-- Every running checksum is the checksum of the bytes in the buffer. -/
def State.Summed (s : State) : Prop :=
  IbusSummed s.params s.ibus ∧ CrsfSummed s.params s.crsf ∧ SumdSummed s.params s.sumd ∧
  MirrorSummed s.params s.mirror

/-! ### What no rule can tell apart -/

/-- How many bytes of `D.BUF` the current SBus frame has written (R54). -/
def sbusFilled (D : SbusDecoder) : Nat :=
  match D.st with
  | .undefined | .gotEnd => 0
  | .data => D.idx.toNat
  | .waitEnd => 23

/-- How many bytes of `D.BUF` the current IBus frame has written (R54). -/
def ibusFilled (D : IbusDecoder) : Nat :=
  match D.st with
  | .idle => 0
  | .hdr => 1
  | .data => D.idx.toNat

/-- How many bytes of `D.BUF` the current CRSF frame has written (R54). -/
def crsfFilled (D : CrsfDecoder) : Nat :=
  match D.st with
  | .sync => 0
  | .len => 1
  | .data => 2 + D.idx.toNat

/-- How many bytes of `D.BUF` the current SumD frame has written (R54). -/
def sumdFilled (D : SumdDecoder) : Nat :=
  match D.st with
  | .sync => 0
  | .status => 1
  | .count => 2
  | .data => 3 + D.idx.toNat

/-- Two banks that show the same frame: entries at and past `CNT` may differ (U2). -/
def Bank.SeenEq {cap : Nat} (B C : Bank cap) : Prop :=
  B.cnt = C.cnt ∧ B.fl = C.fl ∧
  ∀ k, k < B.cnt.toNat → B.valueAt k = C.valueAt k ∧ B.classAt k = C.classAt k

/-- Two decoder states equal but for the buffer bytes the current frame has not written (U1), the
inactive bank (U3), and the entries past `CNT` of the visible one (U2). -/
def Decoder.SeenEq {σ : Type} {n cap : Nat} (filled : Decoder σ n cap → Nat) (D E : Decoder σ n cap) :
    Prop :=
  D.st = E.st ∧ D.idx = E.idx ∧ D.exp = E.exp ∧ D.acc = E.acc ∧ D.gap = E.gap ∧ D.act = E.act ∧
  D.valid = E.valid ∧ D.has = E.has ∧ D.age = E.age ∧ D.stamp = E.stamp ∧ D.lastErr = E.lastErr ∧
  D.frmErr = E.frmErr ∧ D.ckErr = E.ckErr ∧ D.frames = E.frames ∧
  (∀ i, i < filled D → D.byte i = E.byte i) ∧ D.active.SeenEq E.active

/-- Two states equal but for what U1, U2 and U3 leave free. -/
def State.SeenEq (s t : State) : Prop :=
  s.params = t.params ∧ s.ticks = t.ticks ∧ s.crc8Acc = t.crc8Acc ∧ s.mirror = t.mirror ∧
  s.resp = t.resp ∧ s.pending = t.pending ∧
  s.sbus.SeenEq sbusFilled t.sbus ∧ s.ibus.SeenEq ibusFilled t.ibus ∧
  s.crsf.SeenEq crsfFilled t.crsf ∧ s.sumd.SeenEq sumdFilled t.sumd

/-- A decoder without its bookkeeping fields (R36). -/
def Decoder.sansBooks {σ : Type} {n cap : Nat} (D : Decoder σ n cap) : Decoder σ n cap :=
  { D with lastErr := .none, frmErr := 0, ckErr := 0, frames := 0 }

/-- A state without the bookkeeping fields of its decoders (R36) and without the last response. -/
def State.sansBooks (s : State) : State :=
  { s with
    sbus := s.sbus.sansBooks, ibus := s.ibus.sansBooks, crsf := s.crsf.sansBooks
    sumd := s.sumd.sansBooks, resp := respOk 0 }

/-- The commands whose response shows bookkeeping fields: reads of STATUS and COUNTS (R44, R46). -/
def showsBooks : Instr → Bool
  | .rdSbus a | .rdIbus a | .rdCrsf a | .rdSumd a => a = 0x20 || a = 0x22
  | _ => false

/-- The Channel Store of a decoder is the same (R35), and so is the count of publishes. -/
def Decoder.SameStore {σ : Type} {n cap : Nat} (D E : Decoder σ n cap) : Prop :=
  D.bank0 = E.bank0 ∧ D.bank1 = E.bank1 ∧ D.act = E.act ∧ D.valid = E.valid ∧ D.has = E.has ∧
  D.age = E.age ∧ D.stamp = E.stamp ∧ D.frames = E.frames

/-- The part of the block a byte, an ABORT or a CRC8 command acts on: decoder 0 to 3, or 4 for the
CRC-8 generator; none for a command that acts on all of it, or only reads. -/
def partOf : Instr → Option Nat
  | .rxSbus _ | .abortSbus => some 0
  | .rxIbus _ | .abortIbus => some 1
  | .rxCrsf _ | .abortCrsf => some 2
  | .rxSumd _ | .abortSumd => some 3
  | .crc8Init | .crc8Feed _ => some 4
  | _ => none

/-- Commands none of which is an RX or an ABORT of part `a`, or RESET. -/
def QuietFor (a : Nat) (is : List Instr) : Prop := ∀ i ∈ is, partOf i ≠ some a ∧ i ≠ .reset

/-- No command of the list, run from `s`, publishes for decoder `a` (R105). -/
def Unpublished (a : Nat) : List Instr → State → Prop
  | [], _ => True
  | i :: is, s =>
    ∀ t, exec i s = .next t → ¬ (partOf i = some a ∧ t.resp = ⟨.ok, 3⟩) ∧ Unpublished a is t

/-- A state of an instance with parameters `p` directly after reset: at power-on, or after RESET
(R53, R490). -/
def JustReset (p : Params) (s : State) : Prop :=
  s = State.resetWith p ∨ ∃ u : State, u.params = p ∧ exec .reset u = .next s

/-! ### The rules of a publish, of a TICK and of the status words, field by field -/

section
variable {σ : Type} {n cap : Nat}

/-- What Publish leaves (R76): the frame `vals` in the bank that was inactive, its entries past the
frame as they were, that bank visible, the other one untouched. -/
def PublishRule (now : Word) (vals : List Half) (cls : List ChanClass) (fl : BitVec 4)
    (D E : Decoder σ n cap) : Prop :=
  E.act = !D.act ∧ E.bank D.act = D.bank D.act ∧
  (∀ k (h : k < vals.length), E.active.valueAt k = vals[k]) ∧
  (∀ k (h : k < cls.length), E.active.classAt k = cls[k]) ∧
  (∀ k, vals.length ≤ k →
    E.active.valueAt k = (D.bank !D.act).valueAt k ∧
    E.active.classAt k = (D.bank !D.act).classAt k) ∧
  E.active.cnt.toNat = vals.length ∧ E.active.fl = fl ∧
  E.valid = true ∧ E.has = true ∧ E.age = 0 ∧ E.stamp = now ∧ E.frames = D.frames + 1 ∧
  E.st = D.st ∧ E.idx = D.idx ∧ E.exp = D.exp ∧ E.acc = D.acc ∧ E.buf = D.buf ∧ E.gap = D.gap ∧
  E.lastErr = D.lastErr ∧ E.frmErr = D.frmErr ∧ E.ckErr = D.ckErr

/-- The byte timeout of a decoder fires on this TICK (R402). -/
abbrev GapFires (P : Protocol σ) (p : Params) (D : Decoder σ n cap) : Prop :=
  P.isIdle D.st = false ∧ P.tByte p ≠ 0 ∧ D.gap + 1 = P.tByte p

/-- The staleness timer of a decoder fires on this TICK (R403). -/
abbrev StaleFires (P : Protocol σ) (p : Params) (D : Decoder σ n cap) : Prop :=
  D.valid = true ∧ P.tStale p ≠ 0 ∧ D.age + 1 = P.tStale p

/-- What a TICK leaves of a decoder (R402, R403, R405, R454, R455, R459): when both timers fire,
`LAST_ERR` ends at StaleData and `FRM_ERR` still counts the ByteTimeout. -/
def TickRule (P : Protocol σ) (p : Params) (D E : Decoder σ n cap) : Prop :=
  E.st = (if GapFires P p D then P.initial else D.st) ∧
  E.idx = (if GapFires P p D then 0 else D.idx) ∧
  E.exp = (if GapFires P p D then 0 else D.exp) ∧
  E.gap = (if P.isIdle D.st = true ∨ GapFires P p D then 0
           else if P.tByte p = 0 then D.gap else D.gap + 1) ∧
  E.frmErr = (if GapFires P p D then D.frmErr + 1 else D.frmErr) ∧
  E.valid = (if StaleFires P p D then false else D.valid) ∧
  E.age = (if D.valid = true ∧ P.tStale p ≠ 0 then D.age + 1 else D.age) ∧
  E.lastErr = (if StaleFires P p D then .stale
               else if GapFires P p D then .byteTimeout else D.lastErr) ∧
  E.acc = D.acc ∧ E.buf = D.buf ∧ E.bank0 = D.bank0 ∧ E.bank1 = D.bank1 ∧ E.act = D.act ∧
  E.has = D.has ∧ E.stamp = D.stamp ∧ E.ckErr = D.ckErr ∧ E.frames = D.frames

/-- What a command does to the Channel Store of a decoder, if it may publish only when `mine` and may
run its staleness timer only when `timed` (R35, R75, R76, R77, R403): nothing to its banks, selector,
`HAS`, `STAMP` and `FRAMES`, nor, unless `timed`, to `VALID` and `AGE`; or a Publish, answered `resp`,
that leaves the bank readers saw untouched and flips the selector. -/
def StoreKept (timed mine : Prop) (resp : Response) (now : Word) (D E : Decoder σ n cap) : Prop :=
  (E.bank0 = D.bank0 ∧ E.bank1 = D.bank1 ∧ E.act = D.act ∧ E.has = D.has ∧ E.stamp = D.stamp ∧
    E.frames = D.frames ∧ (¬ timed → E.valid = D.valid ∧ E.age = D.age)) ∨
  (mine ∧ resp = ⟨.ok, 3⟩ ∧ E.act = !D.act ∧ E.bank D.act = D.active ∧ E.valid = true ∧
    E.has = true ∧ E.age = 0 ∧ E.stamp = now ∧ E.frames = D.frames + 1)

/-- A decoder `E` after an edge with a byte and then an ABORT for it (R497): `D` before the edge, `U`
after the byte alone, which answered `resp`. The frame is dropped from `U`; a publish of the byte
stands, and without one the Channel Store is that of before. -/
def AbortedAfterByte (initial : σ) (pub : Bool) (resp : Response) (D U E : Decoder σ n cap) : Prop :=
  E = { U with st := initial, idx := 0, exp := 0, gap := 0 } ∧
  (resp = ⟨.ok, 3⟩ →
    pub = true ∧ E.valid = true ∧ E.has = true ∧ E.age = 0 ∧ E.frames = D.frames + 1) ∧
  (resp ≠ ⟨.ok, 3⟩ → pub = false ∧ E.SameStore D)

/-- A decoder `E` as `D` becomes it under commands `is`, none of them its own, `D` being a partial
frame whose last byte has just arrived and the timer being enabled (R207, R402): aborted by the
`T_BYTE_<P>`-th TICK. If that TICK is the last command, its ByteTimeout is the last error event, or the
StaleData of the same TICK is (R459). -/
def AbortedBySilence (P : Protocol σ) (p : Params) (is : List Instr) (D E : Decoder σ n cap) : Prop :=
  (is.count .tick < (P.tByte p).toNat →
    E.st = D.st ∧ E.idx = D.idx ∧ E.exp = D.exp ∧ E.gap.toNat = is.count .tick ∧
    E.frmErr = D.frmErr) ∧
  ((P.tByte p).toNat ≤ is.count .tick →
    E.st = P.initial ∧ E.idx = 0 ∧ E.exp = 0 ∧ E.gap = 0 ∧ E.frmErr = D.frmErr + 1) ∧
  (is.count .tick = (P.tByte p).toNat → is.getLast? = some .tick →
    E.lastErr = .byteTimeout ∨ E.lastErr = .stale)

/-- A decoder `E` as `D` becomes it under commands `is` that do not publish, `D` having just published
and the timer being enabled (R208, R403): stale from the `T_STALE_<P>`-th TICK on, its values still
there. -/
def StaleBySilence (P : Protocol σ) (p : Params) (is : List Instr) (D E : Decoder σ n cap) : Prop :=
  (is.count .tick < (P.tStale p).toNat → E.valid = true ∧ E.age.toNat = is.count .tick) ∧
  ((P.tStale p).toNat ≤ is.count .tick → E.valid = false ∧ E.age = P.tStale p) ∧
  (is.count .tick = (P.tStale p).toNat → is.getLast? = some .tick → E.lastErr = .stale) ∧
  E.active = D.active ∧ E.has = D.has

/-- What a disabled timer leaves of a decoder over any number of TICKs (R405). -/
def TimersDisabled (P : Protocol σ) (p : Params) (D E : Decoder σ n cap) : Prop :=
  (P.tByte p = 0 → E.gap = 0 ∧ E.st = D.st ∧ E.idx = D.idx ∧ E.exp = D.exp ∧
    E.frmErr = D.frmErr) ∧
  (P.tStale p = 0 → E.age = D.age ∧ E.valid = D.valid)

/-- The word CHAN[k] (R43), bit by bit. -/
def ChanRule (D : Decoder σ n cap) (k : Nat) (w : Word) : Prop :=
  (k < D.active.cnt.toNat →
    w.extractLsb' 0 16 = D.active.valueAt k ∧
    w.getLsbD 16 = decide (D.active.classAt k ≠ .out) ∧
    w.extractLsb' 18 2 = (D.active.classAt k).code) ∧
  (D.active.cnt.toNat ≤ k →
    w.extractLsb' 0 16 = 0 ∧ w.getLsbD 16 = false ∧ w.extractLsb' 18 2 = 3) ∧
  w.getLsbD 17 = D.valid ∧ w.extractLsb' 20 12 = 0

/-- The word STATUS (R44), field by field. -/
def StatusRule (P : Protocol σ) (D : Decoder σ n cap) (w : Word) : Prop :=
  w.getLsbD 0 = D.valid ∧ w.getLsbD 1 = D.has ∧ w.extractLsb' 2 4 = D.active.fl ∧
  w.extractLsb' 6 2 = 0 ∧ w.extractLsb' 8 6 = D.active.cnt ∧ w.extractLsb' 14 2 = 0 ∧
  w.extractLsb' 16 4 = (P.code D.st).setWidth 4 ∧ w.extractLsb' 20 3 = D.lastErr.code ∧
  w.extractLsb' 23 9 = 0

/-- The word `RD.<P>` reads at an address every decoder has (R43 to R48). -/
def CommonRule (P : Protocol σ) (D : Decoder σ n cap) (a : Byte) (w : Word) : Prop :=
  (a.toNat ≤ 0x1F → ChanRule D a.toNat w) ∧
  (a = 0x20 → StatusRule P D w) ∧
  (a = 0x21 → w = D.stamp) ∧
  (a = 0x22 → w.extractLsb' 0 8 = D.frmErr ∧ w.extractLsb' 8 8 = D.ckErr ∧
    w.extractLsb' 16 16 = D.frames) ∧
  (a = 0x23 → w.extractLsb' 0 8 = D.idx ∧ w.extractLsb' 8 8 = D.exp ∧ w.extractLsb' 16 16 = D.gap) ∧
  (a = 0x24 → w.extractLsb' 0 16 = D.age ∧ w.extractLsb' 16 16 = 0)

end

/-- What a CHAN word says of channel `k` of a frame of `count` channels whose declared range is `low`
to `high` (R43, R202, R247, R289): an absent channel reads 0 and OUT; a present one is IN_RANGE and OK
within the range, OUT and not OK outside it. -/
def RangeWord (low high : Half) (count k : Nat) (w : Word) : Prop :=
  (k < count →
    w.extractLsb' 18 2 =
      (if low ≤ w.extractLsb' 0 16 ∧ w.extractLsb' 0 16 ≤ high then 0 else 3) ∧
    (w.getLsbD 16 = true ↔ low ≤ w.extractLsb' 0 16 ∧ w.extractLsb' 0 16 ≤ high)) ∧
  (count ≤ k → w.extractLsb' 0 16 = 0 ∧ w.getLsbD 16 = false ∧ w.extractLsb' 18 2 = 3)

/-- The same for a SumD channel (R43, R335), whose class is fixed by four thresholds; only OUT reads
not OK. -/
def SumdRangeWord (p : Params) (count k : Nat) (w : Word) : Prop :=
  (k < count →
    w.extractLsb' 18 2 =
      (if p.sumdMin ≤ w.extractLsb' 0 16 ∧ w.extractLsb' 0 16 ≤ p.sumdMax then 0
       else if p.sumdExtLow ≤ w.extractLsb' 0 16 ∧ w.extractLsb' 0 16 < p.sumdMin then 1
       else if p.sumdMax < w.extractLsb' 0 16 ∧ w.extractLsb' 0 16 ≤ p.sumdExtHigh then 2
       else 3) ∧
    (w.getLsbD 16 = true ↔ w.extractLsb' 18 2 ≠ 3)) ∧
  (count ≤ k → w.extractLsb' 0 16 = 0 ∧ w.getLsbD 16 = false ∧ w.extractLsb' 18 2 = 3)

/-- The word `RD.CRSF` reads at LASTFRAME or XBUF[i] (R49, R50). -/
def MirrorRule (m : Mirror) (a : Byte) (w : Word) : Prop :=
  (a = 0x25 → w.extractLsb' 0 8 = m.type ∧ w.extractLsb' 8 8 = m.dest ∧ w.extractLsb' 16 8 = m.orig ∧
    w.getLsbD 24 = m.ext ∧ w.getLsbD 25 = m.present ∧ w.extractLsb' 26 6 = m.len) ∧
  (0x40 ≤ a.toNat → a.toNat ≤ 0x7F →
    w.extractLsb' 0 8 = m.byte (a.toNat - 0x40) ∧ w.extractLsb' 8 24 = 0)

end Sys2Proof.Machine
end

