-- ==== Sys2Proof/Certificates/Slice0/Obligations.lean ====
section
/-! DEFINITION. The statements about the RC frame decoder block. A statement about "every state"
holds in states no run reaches unless it names the invariant `State.Inv` as a premise; that the
invariant holds at reset and is kept by every step are statements of their own. -/

open Sys2Proof Sys2Proof.Machine

/-! ### Encoding -/

/-- Words of R101 written out from its `match` column, one of each operation, decode to their
command (30_encoding.md section 1; the words of V-EN1, V-EN10, V-EN12, V-EN15 to V-EN17). -/
def Obligations.SampleWordsDecode : Prop :=
  decode 0x0000 = .ok .nop ∧ decode 0x100F = .ok (.rxSbus 0x0F) ∧
  decode 0x14DC = .ok (.rxIbus 0xDC) ∧ decode 0x18C8 = .ok (.rxCrsf 0xC8) ∧
  decode 0x1CA8 = .ok (.rxSumd 0xA8) ∧ decode 0x2000 = .ok .tick ∧
  decode 0x3000 = .ok (.rdSbus 0) ∧ decode 0x3422 = .ok (.rdIbus 0x22) ∧
  decode 0x3820 = .ok (.rdCrsf 0x20) ∧ decode 0x3C24 = .ok (.rdSumd 0x24) ∧
  decode 0x4000 = .ok .crc8Init ∧ decode 0x5031 = .ok (.crc8Feed 0x31) ∧
  decode 0x6000 = .ok .crc8Rd ∧ decode 0x7000 = .ok .rdTime ∧ decode 0x8000 = .ok .abortSbus ∧
  decode 0x8400 = .ok .abortIbus ∧ decode 0x8800 = .ok .abortCrsf ∧
  decode 0x8C00 = .ok .abortSumd ∧ decode 0xF000 = .ok .reset

/-- Decode and encode agree, for every command and every operand byte. -/
def Obligations.DecodeOfEncode : Prop := ∀ i : Instr, decode (encode i) = .ok i

/-- No word stands for a command other than the one it is the encoding of: of the 65536 words, those
that decode are exactly the encodings. -/
def Obligations.EncodeOfDecode : Prop :=
  ∀ (w : CmdWord) (i : Instr), decode w = .ok i → encode i = w

/-- R101: "At most one row matches any word." -/
def Obligations.AtMostOneRowMatches : Prop :=
  opcodeMap.Pairwise fun r q => ∀ w : CmdWord, ¬ (r.selects w = true ∧ q.selects w = true)

/-- R103, R410, R456: which words are illegal; that such a word, and an `RD.<P>` of an address that
is reserved for `P`, answers ILLEGAL with value 0; and that nothing else changes. -/
def Obligations.IllegalCommands : Prop :=
  (∀ w : CmdWord, (∃ e, decode w = .error e) ↔
    ((0x9 ≤ w.op ∧ w.op ≤ 0xE) ∨ w.z ≠ 0 ∨
     (w.dec ≠ 0 ∧ w.op ∈ [0x0#4, 0x2#4, 0x4#4, 0x5#4, 0x6#4, 0x7#4, 0xF#4]) ∨
     (w.data ≠ 0 ∧ w.op ∈ [0x0#4, 0x2#4, 0x4#4, 0x6#4, 0x7#4, 0x8#4, 0xF#4]))) ∧
  (∀ (w : CmdWord) (s : State), (∃ e, decode w = .error e) →
    executeWord w s = .next { s with resp := ⟨.illegal, 0⟩ }) ∧
  (∀ (a : Byte) (s : State), 0x24 < a.toNat →
    exec (.rdSbus a) s = .next { s with resp := ⟨.illegal, 0⟩ } ∧
    exec (.rdIbus a) s = .next { s with resp := ⟨.illegal, 0⟩ } ∧
    exec (.rdSumd a) s = .next { s with resp := ⟨.illegal, 0⟩ }) ∧
  (∀ (a : Byte) (s : State),
    (0x25 < a.toNat ∧ a.toNat < 0x40) ∨ 0x7F < a.toNat →
    exec (.rdCrsf a) s = .next { s with resp := ⟨.illegal, 0⟩ })

/-! ### The step -/

/-- A step runs the decoded command (R107): if the oldest waiting word decodes to `i`, the step is
`exec` of `i` in the state from which that word was taken. That words wait in a queue, and that a step
takes the oldest and leaves the rest waiting, is the MODEL's choice (log 1). -/
def Obligations.StepRunsTheDecodedCommand : Prop :=
  ∀ (s : State) (w : CmdWord) (rest : List CmdWord) (i : Instr),
    s.pending = w :: rest → decode w = .ok i → step s = exec i { s with pending := rest }

/-- A step answers an illegal word with ILLEGAL and value 0 and changes nothing else of the block
(R410). That the word is taken off a queue of waiting ones is the MODEL's choice (log 1). -/
def Obligations.StepAnswersIllegalWords : Prop :=
  ∀ (s : State) (w : CmdWord) (rest : List CmdWord) (e : Illegal),
    s.pending = w :: rest → decode w = .error e →
    step s = .next { s with pending := rest, resp := ⟨.illegal, 0⟩ }

/-- With no command waiting a step changes nothing. The MODEL's choice (log 1), after R465: "All state
is kept between commands". -/
def Obligations.StepWithoutCommandKeepsState : Prop :=
  ∀ s : State, s.pending = [] → step s = .next s

/-- Every step completes, in every state: no command leaves the block stuck, faulted or hung (R467,
R5). -/
def Obligations.EveryStepCompletes : Prop := ∀ s : State, ∃ t, step s = .next t

/-- R41, R492: no command changes a construction parameter, and RESET keeps them; nor does a command
touch the commands that wait behind it (the model's own field, log 1). -/
def Obligations.ParametersNeverChange : Prop :=
  ∀ (i : Instr) (s t : State), exec i s = .next t → t.params = s.params ∧ t.pending = s.pending

/-- R404: `S.TICKS` is incremented modulo 2^32 by each TICK, and changed by no other command except
RESET. -/
def Obligations.TicksChangeOnlyByTickAndReset : Prop :=
  ∀ (i : Instr) (s t : State), exec i s = .next t →
    (i = .tick → t.ticks = s.ticks + 1) ∧ (i ≠ .tick → i ≠ .reset → t.ticks = s.ticks)

/-! ### The result of each command -/

/-- R400: NOP changes no state and answers (OK, 0). -/
def Obligations.NopResult : Prop :=
  ∀ s : State, exec .nop s = .next { s with resp := ⟨.ok, 0⟩ }

/-- R204, with R205, R452: what `RX.SBUS b` does in each FSM state; nothing but the SBus decoder and
the response changes. -/
def Obligations.RxSbusResult : Prop :=
  ∀ (b : Byte) (s : State), ∃ D r,
    exec (.rxSbus b) s = .next { s with sbus := D, resp := r } ∧
    ((s.sbus.st = .undefined ∨ s.sbus.st = .gotEnd) → r = ⟨.ok, 0⟩ ∧
      (b = s.params.sbusStart → D = { s.sbus with gap := 0, st := .data, idx := 0 }) ∧
      (b ≠ s.params.sbusStart → D = { s.sbus with gap := 0, st := .undefined })) ∧
    (s.sbus.st = .data → r = ⟨.ok, 0⟩ ∧
      D = { s.sbus with
        gap := 0, buf := s.sbus.buf.setIfInBounds s.sbus.idx.toNat b, idx := s.sbus.idx + 1
        st := if s.sbus.idx + 1 = 23 then .waitEnd else .data }) ∧
    (s.sbus.st = .waitEnd → b = s.params.sbusEnd → r = ⟨.ok, 3⟩ ∧
      D = { publish s.ticks (unpack11 (s.sbus.bytes 0 22))
              ((unpack11 (s.sbus.bytes 0 22)).map (rangeClass s.params.sbusMin s.params.sbusMax))
              ((s.sbus.byte 22).extractLsb' 0 4) s.sbus with
        gap := 0, st := .gotEnd, idx := 0 }) ∧
    (s.sbus.st = .waitEnd → b ≠ s.params.sbusEnd → r = ⟨.ok, 0⟩ ∧
      D = { s.sbus with
        st := .undefined, idx := 0, exp := 0, gap := 0
        lastErr := .framing, frmErr := s.sbus.frmErr + 1 })

/-- R243, with R241, R242, R452, R453: what `RX.IBUS b` does in each FSM state. `E` is the decoder
with the byte stored. -/
def Obligations.RxIbusResult : Prop :=
  ∀ (b : Byte) (s : State), ∃ D r,
    exec (.rxIbus b) s = .next { s with ibus := D, resp := r } ∧
    (s.ibus.st = .idle → r = ⟨.ok, 0⟩ ∧
      (b = s.params.ibusHdr0 → D = { s.ibus with
        gap := 0, buf := s.ibus.buf.setIfInBounds 0 b, acc := sum16Step s.params.ibusSeed b
        idx := 1, st := .hdr }) ∧
      (b ≠ s.params.ibusHdr0 → D = { s.ibus with gap := 0 })) ∧
    (s.ibus.st = .hdr → r = ⟨.ok, 0⟩ ∧
      (b = s.params.ibusHdr1 → D = { s.ibus with
        gap := 0, buf := s.ibus.buf.setIfInBounds 1 b, acc := sum16Step s.ibus.acc b
        idx := 2, st := .data }) ∧
      (b ≠ s.params.ibusHdr1 → D = { s.ibus with
        st := .idle, idx := 0, exp := 0, gap := 0
        lastErr := .framing, frmErr := s.ibus.frmErr + 1 })) ∧
    (s.ibus.st = .data → ∃ E : IbusDecoder,
      E = { s.ibus with
        gap := 0, buf := s.ibus.buf.setIfInBounds s.ibus.idx.toNat b
        acc := if s.ibus.idx.toNat < 30 then sum16Step s.ibus.acc b else s.ibus.acc
        idx := s.ibus.idx + 1 } ∧
      (E.idx ≠ 32 → r = ⟨.ok, 0⟩ ∧ D = E) ∧
      (E.idx = 32 → E.byte 30 = lowByte E.acc ∧ E.byte 31 = highByte E.acc → r = ⟨.ok, 3⟩ ∧
        D = { publish s.ticks (ibusDecode s.params E)
                ((ibusDecode s.params E).map (rangeClass s.params.ibusMin s.params.ibusMax)) 0 E with
          st := .idle, idx := 0 }) ∧
      (E.idx = 32 → ¬ (E.byte 30 = lowByte E.acc ∧ E.byte 31 = highByte E.acc) → r = ⟨.ok, 0⟩ ∧
        D = { E with
          st := .idle, idx := 0, exp := 0, gap := 0
          lastErr := .checksum, ckErr := s.ibus.ckErr + 1 }))

/-- R284, with R282, R283, R286, R452, R453: what `RX.CRSF b` does in each FSM state. `E` is the
decoder with the byte stored. -/
def Obligations.RxCrsfResult : Prop :=
  ∀ (b : Byte) (s : State), ∃ D m r,
    exec (.rxCrsf b) s = .next { s with crsf := D, mirror := m, resp := r } ∧
    (s.crsf.st = .sync → r = ⟨.ok, 0⟩ ∧ m = s.mirror ∧
      (b = s.params.crsfSync → D = { s.crsf with
        gap := 0, buf := s.crsf.buf.setIfInBounds 0 b, st := .len }) ∧
      (b ≠ s.params.crsfSync → D = { s.crsf with gap := 0 })) ∧
    (s.crsf.st = .len → r = ⟨.ok, 0⟩ ∧ m = s.mirror ∧
      (s.params.crsfLenMin ≤ b ∧ b ≤ s.params.crsfLenMax → D = { s.crsf with
        gap := 0, buf := s.crsf.buf.setIfInBounds 1 b, exp := b, idx := 0
        acc := s.params.crc8Init.setWidth 16, st := .data }) ∧
      (¬ (s.params.crsfLenMin ≤ b ∧ b ≤ s.params.crsfLenMax) → D = { s.crsf with
        st := .sync, idx := 0, exp := 0, gap := 0
        lastErr := .framing, frmErr := s.crsf.frmErr + 1 })) ∧
    (s.crsf.st = .data → ∃ E : CrsfDecoder,
      E = { s.crsf with
        gap := 0, buf := s.crsf.buf.setIfInBounds (2 + s.crsf.idx.toNat) b
        acc := if s.crsf.idx.toNat + 1 < s.crsf.exp.toNat then
            (crc8Step s.params.crc8Poly (lowByte s.crsf.acc) b).setWidth 16
          else s.crsf.acc
        idx := s.crsf.idx + 1 } ∧
      (E.idx ≠ s.crsf.exp → r = ⟨.ok, 0⟩ ∧ m = s.mirror ∧ D = E) ∧
      (E.idx = s.crsf.exp → lowByte E.acc ≠ b → r = ⟨.ok, 0⟩ ∧ m = s.mirror ∧
        D = { E with
          st := .sync, idx := 0, exp := 0, gap := 0
          lastErr := .checksum, ckErr := s.crsf.ckErr + 1 }) ∧
      (E.idx = s.crsf.exp → lowByte E.acc = b → m = mirrorOf s.params E ∧
        (E.byte 2 = s.params.crsfTypeRc → s.crsf.exp = 24 → r = ⟨.ok, 3⟩ ∧
          D = { publish s.ticks (unpack11 (E.bytes 3 22))
                  ((unpack11 (E.bytes 3 22)).map (rangeClass s.params.crsfMin s.params.crsfMax)) 0 E with
            st := .sync, idx := 0, exp := 0 }) ∧
        (E.byte 2 = s.params.crsfTypeRc → s.crsf.exp ≠ 24 → r = ⟨.ok, 1⟩ ∧
          D = { E with
            st := .sync, idx := 0, exp := 0, gap := 0
            lastErr := .framing, frmErr := s.crsf.frmErr + 1 }) ∧
        (E.byte 2 ≠ s.params.crsfTypeRc → r = ⟨.ok, 1⟩ ∧
          D = { E with st := .sync, idx := 0, exp := 0 })))

/-- R333, with R331, R332, R334 to R336, R452, R453: what `RX.SUMD b` does in each FSM state. `E` is
the decoder with the byte stored, `n` the channel count. -/
def Obligations.RxSumdResult : Prop :=
  ∀ (b : Byte) (s : State), ∃ D r,
    exec (.rxSumd b) s = .next { s with sumd := D, resp := r } ∧
    (s.sumd.st = .sync → r = ⟨.ok, 0⟩ ∧
      (b = s.params.sumdSync → D = { s.sumd with
        gap := 0, buf := s.sumd.buf.setIfInBounds 0 b
        acc := crc16Step s.params.sumdCrcPoly s.params.sumdCrcInit b, st := .status }) ∧
      (b ≠ s.params.sumdSync → D = { s.sumd with gap := 0 })) ∧
    (s.sumd.st = .status → r = ⟨.ok, 0⟩ ∧
      (b = s.params.sumdStNormal ∨ b = s.params.sumdStFailsafe → D = { s.sumd with
        gap := 0, buf := s.sumd.buf.setIfInBounds 1 b
        acc := crc16Step s.params.sumdCrcPoly s.sumd.acc b, st := .count }) ∧
      (¬ (b = s.params.sumdStNormal ∨ b = s.params.sumdStFailsafe) → D = { s.sumd with
        st := .sync, idx := 0, exp := 0, gap := 0
        lastErr := .framing, frmErr := s.sumd.frmErr + 1 })) ∧
    (s.sumd.st = .count → r = ⟨.ok, 0⟩ ∧
      (s.params.sumdMinCh ≤ b ∧ b ≤ s.params.sumdMaxCh → D = { s.sumd with
        gap := 0, buf := s.sumd.buf.setIfInBounds 2 b, exp := b, idx := 0
        acc := crc16Step s.params.sumdCrcPoly s.sumd.acc b, st := .data }) ∧
      (¬ (s.params.sumdMinCh ≤ b ∧ b ≤ s.params.sumdMaxCh) → D = { s.sumd with
        st := .sync, idx := 0, exp := 0, gap := 0
        lastErr := .framing, frmErr := s.sumd.frmErr + 1 })) ∧
    (s.sumd.st = .data → ∃ (n : Nat) (vals : List Half) (E : SumdDecoder), n = s.sumd.exp.toNat ∧
      E = { s.sumd with
        gap := 0, buf := s.sumd.buf.setIfInBounds (3 + s.sumd.idx.toNat) b
        acc := if s.sumd.idx.toNat < 2 * n then crc16Step s.params.sumdCrcPoly s.sumd.acc b
          else s.sumd.acc
        idx := s.sumd.idx + 1 } ∧
      vals = (List.range n).map (fun k => beHalf (E.byte (3 + 2 * k)) (E.byte (4 + 2 * k))) ∧
      (E.idx.toNat ≠ 2 * n + 2 → r = ⟨.ok, 0⟩ ∧ D = E) ∧
      (E.idx.toNat = 2 * n + 2 → beHalf (E.byte (3 + 2 * n)) (E.byte (4 + 2 * n)) = E.acc →
        r = ⟨.ok, 3⟩ ∧
        D = { publish s.ticks vals (vals.map (sumdClass s.params))
                (if E.byte 1 = s.params.sumdStFailsafe then 8 else 0) E with
          st := .sync, idx := 0, exp := 0 }) ∧
      (E.idx.toNat = 2 * n + 2 → beHalf (E.byte (3 + 2 * n)) (E.byte (4 + 2 * n)) ≠ E.acc →
        r = ⟨.ok, 0⟩ ∧
        D = { E with
          st := .sync, idx := 0, exp := 0, gap := 0
          lastErr := .checksum, ckErr := s.sumd.ckErr + 1 }))

/-- R401, with R402, R403, R404, R405, R454, R455, R459: TICK advances the tick counter and runs both
timers of every decoder; `TickRule` says what becomes of each field. -/
def Obligations.TickResult : Prop :=
  ∀ s : State, ∃ D0 D1 D2 D3,
    exec .tick s = .next { s with
      ticks := s.ticks + 1, sbus := D0, ibus := D1, crsf := D2, sumd := D3, resp := ⟨.ok, 0⟩ } ∧
    TickRule sbusProtocol s.params s.sbus D0 ∧ TickRule ibusProtocol s.params s.ibus D1 ∧
    TickRule crsfProtocol s.params s.crsf D2 ∧ TickRule sumdProtocol s.params s.sumd D3

/-- R406, R42 to R50, R72, R73: every `RD.<P>` of a listed address answers OK with the word of its
layout rule, and changes nothing else. -/
def Obligations.ReadResults : Prop :=
  ∀ (a : Byte) (s : State),
    (a.toNat ≤ 0x24 →
      (∃ w, exec (.rdSbus a) s = .next { s with resp := ⟨.ok, w⟩ } ∧
        CommonRule sbusProtocol s.sbus a w) ∧
      (∃ w, exec (.rdIbus a) s = .next { s with resp := ⟨.ok, w⟩ } ∧
        CommonRule ibusProtocol s.ibus a w) ∧
      (∃ w, exec (.rdCrsf a) s = .next { s with resp := ⟨.ok, w⟩ } ∧
        CommonRule crsfProtocol s.crsf a w) ∧
      (∃ w, exec (.rdSumd a) s = .next { s with resp := ⟨.ok, w⟩ } ∧
        CommonRule sumdProtocol s.sumd a w)) ∧
    (a = 0x25 ∨ (0x40 ≤ a.toNat ∧ a.toNat ≤ 0x7F) →
      ∃ w, exec (.rdCrsf a) s = .next { s with resp := ⟨.ok, w⟩ } ∧ MirrorRule s.mirror a w)

/-- R407, R51: RD.TIME answers OK with `S.TICKS` and changes nothing else. -/
def Obligations.RdTimeResult : Prop :=
  ∀ s : State, exec .rdTime s = .next { s with resp := ⟨.ok, s.ticks⟩ }

/-- R375, R376, R377, R52: the three CRC8 commands answer OK with the accumulator after their own
update, zero-extended, and change nothing but the accumulator. -/
def Obligations.Crc8CommandResults : Prop :=
  ∀ (b : Byte) (s : State),
    exec .crc8Init s = .next { s with
      crc8Acc := s.params.crc8Init, resp := ⟨.ok, s.params.crc8Init.setWidth 32⟩ } ∧
    exec (.crc8Feed b) s = .next { s with
      crc8Acc := crc8Step s.params.crc8Poly s.crc8Acc b
      resp := ⟨.ok, (crc8Step s.params.crc8Poly s.crc8Acc b).setWidth 32⟩ } ∧
    exec .crc8Rd s = .next { s with resp := ⟨.ok, s.crc8Acc.setWidth 32⟩ }

/-- R408: ABORT forces its decoder back to state code 0 and clears `IDX`, `EXP` and `GAP`; the error
record, the Channel Store, `ACC`, `BUF` and the mirror are left unchanged. -/
def Obligations.AbortResults : Prop :=
  ∀ s : State,
    exec .abortSbus s = .next { s with
      sbus := { s.sbus with st := .undefined, idx := 0, exp := 0, gap := 0 }, resp := ⟨.ok, 0⟩ } ∧
    exec .abortIbus s = .next { s with
      ibus := { s.ibus with st := .idle, idx := 0, exp := 0, gap := 0 }, resp := ⟨.ok, 0⟩ } ∧
    exec .abortCrsf s = .next { s with
      crsf := { s.crsf with st := .sync, idx := 0, exp := 0, gap := 0 }, resp := ⟨.ok, 0⟩ } ∧
    exec .abortSumd s = .next { s with
      sumd := { s.sumd with st := .sync, idx := 0, exp := 0, gap := 0 }, resp := ⟨.ok, 0⟩ }

/-- R409, R492: RESET answers (OK, 0), keeps the parameters, and leaves every field at its reset
value. That the commands waiting behind it are kept is the MODEL's reading (log 17), and that the
buffers `D.BUF`, which R53 leaves unspecified, are zeros is its choice (log 5). -/
def Obligations.ResetResult : Prop :=
  ∀ s : State,
    exec .reset s = .next { State.resetWith s.params with pending := s.pending, resp := ⟨.ok, 0⟩ }

/-- R53: the reset values of every field the table gives one for (not `D.BUF`, which it leaves
unspecified), at power-on and after every RESET. -/
def Obligations.ResetValues : Prop :=
  State.reset = State.resetWith Params.built ∧
  ∀ (p : Params) (s : State), JustReset p s →
    s.ticks = 0 ∧ s.crc8Acc = p.crc8Init ∧
    s.mirror = ⟨Vector.replicate 64 0, 0, 0, 0, false, false, 0⟩ ∧
    s.sbus = ⟨.undefined, 0, 0, 0, s.sbus.buf, 0, Bank.reset 16, Bank.reset 16, false, false, false, 0, 0,
      .none, 0, 0, 0⟩ ∧
    s.ibus = ⟨.idle, 0, 0, 0, s.ibus.buf, 0, Bank.reset 18, Bank.reset 18, false, false, false, 0, 0,
      .none, 0, 0, 0⟩ ∧
    s.crsf = ⟨.sync, 0, 0, 0, s.crsf.buf, 0, Bank.reset 16, Bank.reset 16, false, false, false, 0, 0,
      .none, 0, 0, 0⟩ ∧
    s.sumd = ⟨.sync, 0, 0, 0, s.sumd.buf, 0, Bank.reset 32, Bank.reset 32, false, false, false, 0, 0,
      .none, 0, 0, 0⟩ ∧
    (∀ cap k, k < cap → (Bank.reset cap).valueAt k = 0 ∧ (Bank.reset cap).classAt k = .out) ∧
    (∀ cap, (Bank.reset cap).cnt = 0 ∧ (Bank.reset cap).fl = 0)

/-- R491: what the reads return directly after reset, for any parameters. -/
def Obligations.ReadsAfterReset : Prop :=
  ∀ (p : Params) (s : State), JustReset p s →
    (∀ a : Byte, a.toNat ≤ 0x24 → ∀ i, i ∈ [Instr.rdSbus a, .rdIbus a, .rdCrsf a, .rdSumd a] →
      exec i s = .next { s with resp := ⟨.ok, if a.toNat ≤ 0x1F then 0x000C0000 else 0⟩ }) ∧
    (∀ a : Byte, a = 0x25 ∨ (0x40 ≤ a.toNat ∧ a.toNat ≤ 0x7F) →
      exec (.rdCrsf a) s = .next { s with resp := ⟨.ok, 0⟩ }) ∧
    exec .rdTime s = .next { s with resp := ⟨.ok, 0⟩ } ∧
    exec .crc8Rd s = .next { s with resp := ⟨.ok, p.crc8Init.setWidth 32⟩ } ∧
    s.sbus.st = .undefined ∧ s.ibus.st = .idle ∧ s.crsf.st = .sync ∧ s.sumd.st = .sync

/-! ### Shared operations -/

/-- R76: what Publish leaves, for a frame of `n` channels, 1 ≤ n ≤ CAP, on any decoder. `CNT` has six
bits, so the capacity is at most 63. -/
def Obligations.PublishWritesTheInactiveBank : Prop :=
  ∀ (σ : Type) (n cap : Nat) (D : Decoder σ n cap) (now : Word) (vals : List Half)
    (cls : List ChanClass) (fl : BitVec 4),
    cap ≤ 63 → 1 ≤ vals.length → vals.length ≤ cap → cls.length = vals.length →
    PublishRule now vals cls fl D (publish now vals cls fl D)

/-- R287, R288: what Mirror leaves, from any buffer whose length byte is legal. -/
def Obligations.MirrorCopiesTheFrame : Prop :=
  ∀ (p : Params) (D : CrsfDecoder) (L : Nat), L = (D.byte 1).toNat → 2 ≤ L → L ≤ 62 →
    (∀ i, i ≤ L + 1 → (mirrorOf p D).byte i = D.byte i) ∧
    (∀ i, L + 2 ≤ i → (mirrorOf p D).byte i = 0) ∧
    (mirrorOf p D).type = D.byte 2 ∧ (mirrorOf p D).len.toNat = L ∧ (mirrorOf p D).present = true ∧
    ((p.crsfExtMin.toNat ≤ (D.byte 2).toNat ∧ 2 ≤ L - 2) →
      (mirrorOf p D).ext = true ∧ (mirrorOf p D).dest = D.byte 3 ∧ (mirrorOf p D).orig = D.byte 4) ∧
    (¬ (p.crsfExtMin.toNat ≤ (D.byte 2).toNat ∧ 2 ≤ L - 2) →
      (mirrorOf p D).ext = false ∧ (mirrorOf p D).dest = 0 ∧ (mirrorOf p D).orig = 0)

/-- R78: bit i of channel k is bit `(11k + i) mod 8` of byte `p[⌊(11k + i)/8⌋]`, and the value has
no other bit. -/
def Obligations.UnpackedBitsOfEachChannel : Prop :=
  ∀ (p : List Byte), p.length = 22 → (unpack11 p).length = 16 ∧
    ∀ k, k < 16 → ∀ i,
      ((unpack11 p).getD k 0).getLsbD i =
        (decide (i < 11) && (p.getD ((11 * k + i) / 8) 0).getLsbD ((11 * k + i) % 8))

/-- R78: `Pack11` is the inverse of `Unpack11`, both ways: of sixteen values below 2048, and of any
22 bytes. -/
def Obligations.PackAndUnpackAreInverse : Prop :=
  (∀ ch : List Half, ch.length = 16 → (∀ c ∈ ch, c.toNat < 2048) → unpack11 (pack11 ch) = ch) ∧
  (∀ p : List Byte, p.length = 22 → pack11 (unpack11 p) = p)

/-- R370: `IbusSum` is the seed less the sum of the bytes modulo 2^16, so it does not depend on the
order of the bytes; from the seed 0xFFFF and 30 bytes it does not wrap. -/
def Obligations.IbusSumIsSeedLessSum : Prop :=
  (∀ (seed : Half) (bs : List Byte),
    ibusSum seed bs = seed - BitVec.ofNat 16 (bs.map BitVec.toNat).sum) ∧
  (∀ (seed : Half) (bs cs : List Byte), bs.Perm cs → ibusSum seed bs = ibusSum seed cs) ∧
  (∀ bs : List Byte, bs.length = 30 →
    (ibusSum 0xFFFF bs).toNat = 0xFFFF - (bs.map BitVec.toNat).sum)

/-- R372, with R371: `Crc8` applies the step to every byte in order, from `CRC8_INIT`, and gives 0xBC
on "123456789" with the defaults; a 256-entry table `T[x] = Crc8Step(0, x)` and the form `T[c ^ b]` give the same
results, and the step is linear over GF(2); the same of `Crc16Step` (R373). -/
def Obligations.CrcStepsAreLinear : Prop :=
  (∀ (poly init : Byte) (bs : List Byte) (b : Byte), crc8 poly init [] = init ∧
    crc8 poly init (bs ++ [b]) = crc8Step poly (crc8 poly init bs) b) ∧
  crc8 0xD5 0x00 [0x31, 0x32, 0x33, 0x34, 0x35, 0x36, 0x37, 0x38, 0x39] = 0xBC ∧
  (∀ poly c b : Byte, crc8Step poly c b = crc8Step poly 0 (c ^^^ b)) ∧
  (∀ poly c d b e : Byte,
    crc8Step poly (c ^^^ d) (b ^^^ e) = crc8Step poly c b ^^^ crc8Step poly d e) ∧
  (∀ (poly c d : Half) (b e : Byte),
    crc16Step poly (c ^^^ d) (b ^^^ e) = crc16Step poly c b ^^^ crc16Step poly d e)

/-- R376: feeding a sequence's own CRC byte after it leaves 0x00; and so does a SumD frame's own
CRC-16, high byte first (R331, V-CK9), for every polynomial and initial value. -/
def Obligations.OwnCrcLeavesZero : Prop :=
  (∀ (poly init : Byte) (bs : List Byte), crc8 poly init (bs ++ [crc8 poly init bs]) = 0) ∧
  (∀ (poly init : Half) (bs : List Byte),
    crc16 poly init (bs ++ [highByte (crc16 poly init bs), lowByte (crc16 poly init bs)]) = 0)

/-! ### Rules of the whole machine -/

/-- R104, R105: ILLEGAL always carries 0, and only a read of a reserved address gives it; every RX
answers OK with value 0, 1 or 3 (`PUB` implies `FRAME`), and 1, a frame not published, only from
CRSF; NOP, TICK, ABORT and RESET give 0. -/
def Obligations.ResponsesHaveTheirShape : Prop :=
  ∀ (i : Instr) (s t : State), exec i s = .next t →
    (t.resp.status = .illegal ↔ i.wellFormed = false) ∧
    (t.resp.status = .illegal → t.resp.value = 0) ∧
    (∀ b, i = .rxSbus b ∨ i = .rxIbus b ∨ i = .rxSumd b → t.resp.value = 0 ∨ t.resp.value = 3) ∧
    (∀ b, i = .rxCrsf b → t.resp.value = 0 ∨ t.resp.value = 1 ∨ t.resp.value = 3) ∧
    (i ∈ [.nop, .tick, .abortSbus, .abortIbus, .abortCrsf, .abortSumd, .reset] → t.resp.value = 0)

/-- R35, R74 to R77: a command other than RESET leaves the Channel Store of a decoder (both banks, the
selector, `VALID`, `HAS`, `AGE`, `STAMP`) and `FRAMES` as they were, but that TICK may change `VALID`
and `AGE` (R403), unless it is that decoder's own RX and answers PUB; then the bank readers saw is
still there, untouched, and the selector has flipped. -/
def Obligations.OnlyPublishWritesTheStore : Prop :=
  ∀ (i : Instr) (s t : State), exec i s = .next t → i ≠ .reset →
    StoreKept (i = .tick) (∃ b, i = .rxSbus b) t.resp s.ticks s.sbus t.sbus ∧
    StoreKept (i = .tick) (∃ b, i = .rxIbus b) t.resp s.ticks s.ibus t.ibus ∧
    StoreKept (i = .tick) (∃ b, i = .rxCrsf b) t.resp s.ticks s.crsf t.crsf ∧
    StoreKept (i = .tick) (∃ b, i = .rxSumd b) t.resp s.ticks s.sumd t.sumd

/-- R33, R378: the decoders and the CRC-8 generator share no state: two commands that act on
different ones of these five parts can be exchanged, up to the response that is answered last. -/
def Obligations.PartsAreIndependent : Prop :=
  ∀ (i j : Instr) (a b : Nat) (s : State), partOf i = some a → partOf j = some b → a ≠ b →
    ∃ t u, execAll [i, j] s = .next t ∧ execAll [j, i] s = .next u ∧
      t.setResp (respOk 0) = u.setResp (respOk 0)

/-- R36: `LAST_ERR`, `FRM_ERR`, `CK_ERR` and `FRAMES` change no protocol behaviour: two states that
differ only there (and in the last response) stay so under every command, and answer alike, reads of
STATUS and COUNTS excepted. -/
def Obligations.BookkeepingChangesNoOutcome : Prop :=
  ∀ (i : Instr) (s t : State), s.sansBooks = t.sansBooks →
    ∃ s' t', exec i s = .next s' ∧ exec i t = .next t' ∧ s'.sansBooks = t'.sansBooks ∧
      (showsBooks i = false → s'.resp = t'.resp)

/-- R54, U1, U2, U3: no rule reads a byte of `D.BUF` that the current frame has not written, the
inactive bank, or an entry at or past `CNT`: two states that differ only there give the same response
to every step, and still differ only there. -/
def Obligations.HiddenContentIsNeverObserved : Prop :=
  ∀ s t : State, s.Inv → s.SeenEq t →
    ∃ s' t', step s = .next s' ∧ step t = .next t' ∧ s'.SeenEq t'

/-- Every step keeps the invariant: state and index agree, timers stay within their timeouts, every
channel carries the class of its value, unused fields stay 0 (R39, R43, R200, R202, R240, R243, R280,
R284, R330, R333, R402, R403). -/
def Obligations.StepKeepsInv : Prop := ∀ s t : State, s.Inv → step s = .next t → t.Inv

/-- The invariant holds after reset of any well-formed instance, the one of R6 among them. -/
def Obligations.InvHoldsAtReset : Prop :=
  (∀ p : Params, p.wellFormed = true → (State.resetWith p).Inv ∧ (State.resetWith p).Summed) ∧
  State.reset.Inv ∧ State.reset.Summed

/-- Every step keeps the running checksums equal to the checksums of the bytes received, and the
mirrored CRSF frame CRC-valid (R241, R283, R331, R37). -/
def Obligations.StepKeepsChecksums : Prop :=
  ∀ s t : State, s.Inv → s.Summed → step s = .next t → t.Summed

/-- R43 with R202, R247, R289, R335: in every state of a run, a channel of the visible frame reads
`OK` = 1 exactly if its value is within the range its protocol declares, and its class is the one that
the comparisons with that protocol's limits give; SBus and CRSF values have 11 bits. -/
def Obligations.OkChannelsAreInRange : Prop :=
  ∀ (s : State) (a : Byte) (w : Word), s.Inv → a.toNat ≤ 0x1F →
    (exec (.rdSbus a) s = .next { s with resp := ⟨.ok, w⟩ } →
      RangeWord s.params.sbusMin s.params.sbusMax s.sbus.active.cnt.toNat a.toNat w ∧
      (w.extractLsb' 0 16).toNat < 2048) ∧
    (exec (.rdIbus a) s = .next { s with resp := ⟨.ok, w⟩ } →
      RangeWord s.params.ibusMin s.params.ibusMax s.ibus.active.cnt.toNat a.toNat w) ∧
    (exec (.rdCrsf a) s = .next { s with resp := ⟨.ok, w⟩ } →
      RangeWord s.params.crsfMin s.params.crsfMax s.crsf.active.cnt.toNat a.toNat w ∧
      (w.extractLsb' 0 16).toNat < 2048) ∧
    (exec (.rdSumd a) s = .next { s with resp := ⟨.ok, w⟩ } →
      SumdRangeWord s.params s.sumd.active.cnt.toNat a.toNat w)

/-! ### Time -/

/-- R207, and R402 for the other decoders: from a partial frame whose last byte has just arrived, and
whatever other commands come between, the `T_BYTE_<P>`-th TICK without a byte, and none before it,
aborts the frame: the decoder is back in its initial state and `FRM_ERR` has counted one ByteTimeout.
An idle decoder is not affected. -/
def Obligations.SilenceAbortsAPartialFrame : Prop :=
  ∀ (s t : State) (is : List Instr), execAll is s = .next t →
    (QuietFor 0 is →
      (s.sbus.st.isIdle = false → s.sbus.gap = 0 → s.params.tByteSbus ≠ 0 →
        AbortedBySilence sbusProtocol s.params is s.sbus t.sbus) ∧
      (s.sbus.st.isIdle = true → t.sbus.st = s.sbus.st ∧ t.sbus.frmErr = s.sbus.frmErr)) ∧
    (QuietFor 1 is →
      (s.ibus.st.isIdle = false → s.ibus.gap = 0 → s.params.tByteIbus ≠ 0 →
        AbortedBySilence ibusProtocol s.params is s.ibus t.ibus) ∧
      (s.ibus.st.isIdle = true → t.ibus.st = s.ibus.st ∧ t.ibus.frmErr = s.ibus.frmErr)) ∧
    (QuietFor 2 is →
      (s.crsf.st.isIdle = false → s.crsf.gap = 0 → s.params.tByteCrsf ≠ 0 →
        AbortedBySilence crsfProtocol s.params is s.crsf t.crsf) ∧
      (s.crsf.st.isIdle = true → t.crsf.st = s.crsf.st ∧ t.crsf.frmErr = s.crsf.frmErr)) ∧
    (QuietFor 3 is →
      (s.sumd.st.isIdle = false → s.sumd.gap = 0 → s.params.tByteSumd ≠ 0 →
        AbortedBySilence sumdProtocol s.params is s.sumd t.sumd) ∧
      (s.sumd.st.isIdle = true → t.sumd.st = s.sumd.st ∧ t.sumd.frmErr = s.sumd.frmErr))

/-- R208, and R403 for the other decoders: after a publish, whatever commands come that do not publish
again, the Channel Frame turns invalid on the `T_STALE_<P>`-th TICK and not before, and its age then
stays there; the values stay readable. -/
def Obligations.SilenceMakesTheFrameStale : Prop :=
  ∀ (s t : State) (is : List Instr), execAll is s = .next t → .reset ∉ is →
    (Unpublished 0 is s → s.sbus.valid = true → s.sbus.age = 0 → s.params.tStaleSbus ≠ 0 →
      StaleBySilence sbusProtocol s.params is s.sbus t.sbus) ∧
    (Unpublished 1 is s → s.ibus.valid = true → s.ibus.age = 0 → s.params.tStaleIbus ≠ 0 →
      StaleBySilence ibusProtocol s.params is s.ibus t.ibus) ∧
    (Unpublished 2 is s → s.crsf.valid = true → s.crsf.age = 0 → s.params.tStaleCrsf ≠ 0 →
      StaleBySilence crsfProtocol s.params is s.crsf t.crsf) ∧
    (Unpublished 3 is s → s.sumd.valid = true → s.sumd.age = 0 → s.params.tStaleSumd ≠ 0 →
      StaleBySilence sumdProtocol s.params is s.sumd t.sumd)

/-- R405: a timeout parameter equal to 0 disables its timer, however many TICKs pass; and a parameter
of 1 fires it on the first TICK after the byte or the publish. -/
def Obligations.ZeroDisablesATimer : Prop :=
  (∀ (s t : State) (k : Nat), s.Inv → execAll (ticksOf k) s = .next t →
    TimersDisabled sbusProtocol s.params s.sbus t.sbus ∧
    TimersDisabled ibusProtocol s.params s.ibus t.ibus ∧
    TimersDisabled crsfProtocol s.params s.crsf t.crsf ∧
    TimersDisabled sumdProtocol s.params s.sumd t.sumd) ∧
  (∀ (σ : Type) (n cap : Nat) (P : Protocol σ) (p : Params) (D : Decoder σ n cap),
    (P.isIdle D.st = false → D.gap = 0 → P.tByte p = 1 →
      (tickDecoder P p D).st = P.initial ∧ (tickDecoder P p D).frmErr = D.frmErr + 1) ∧
    (D.valid = true → D.age = 0 → P.tStale p = 1 →
      (tickDecoder P p D).valid = false ∧ (tickDecoder P p D).lastErr = .stale))

/-! ### Frames -/

/-- R210: from an idle state, the 25 bytes of `SBUS.FRAME` publish exactly the 16 values, whatever
they are below 2048, and the low nibble of the flags byte. -/
def Obligations.SbusFrameRoundTrip : Prop :=
  ∀ (s : State) (ch : List Half) (fl : Byte),
    s.sbus.st.isIdle = true → ch.length = 16 → (∀ c ∈ ch, c.toNat < 2048) →
    ∃ D, execAll (rxsSbus (sbusFrame s.params ch fl)) s =
        .next { s with sbus := D, resp := ⟨.ok, 3⟩ } ∧
      (∀ k (h : k < ch.length), D.active.valueAt k = ch[k] ∧
        D.active.classAt k = sbusClass s.params ch[k]) ∧
      D.active.cnt = 16 ∧ D.active.fl = fl.extractLsb' 0 4 ∧ D.st = .gotEnd ∧
      D.valid = true ∧ D.has = true ∧ D.age = 0 ∧ D.stamp = s.ticks ∧
      D.frames = s.sbus.frames + 1

/-- R206: two complete frames with no byte between them publish twice, once on each end byte. -/
def Obligations.SbusBackToBackFrames : Prop :=
  ∀ (s : State) (ch ch' : List Half) (fl fl' : Byte),
    s.sbus.st.isIdle = true → ch.length = 16 → ch'.length = 16 →
    ∃ t u, execAll (rxsSbus (sbusFrame s.params ch fl)) s = .next t ∧ t.resp = ⟨.ok, 3⟩ ∧
      execAll (rxsSbus (sbusFrame s.params ch' fl')) t = .next u ∧ u.resp = ⟨.ok, 3⟩ ∧
      t.sbus.frames = s.sbus.frames + 1 ∧ u.sbus.frames = s.sbus.frames + 2

/-- R244 to R247 (S3): from `Idle`, the 32 bytes of `IBUS.FRAME` publish the 14 masked channel words
and, with the default map, the four compressed channels of R246. -/
def Obligations.IbusFrameRoundTrip : Prop :=
  ∀ (s : State) (ch : List Half), s.ibus.st = .idle → ch.length = 14 →
    ∃ D, execAll (rxsIbus (ibusFrame s.params ch)) s =
        .next { s with ibus := D, resp := ⟨.ok, 3⟩ } ∧
      (∀ k (h : k < ch.length), D.active.valueAt k = ch[k] &&& s.params.ibusStdMask ∧
        D.active.classAt k = ibusClass s.params (ch[k] &&& s.params.ibusStdMask)) ∧
      (s.params.ibusCompMap = .upperNibbles → ∀ k, k < 4 →
        D.active.valueAt (14 + k) =
          (((ch.getD (3 * k + 2) 0) >>> 12) <<< 8) ||| (((ch.getD (3 * k + 1) 0) >>> 12) <<< 4) |||
            ((ch.getD (3 * k) 0) >>> 12)) ∧
      D.active.cnt = 18 ∧ D.active.fl = 0 ∧ D.st = .idle ∧ D.valid = true ∧ D.has = true ∧
      D.age = 0 ∧ D.stamp = s.ticks ∧ D.frames = s.ibus.frames + 1

/-- R285, R287 (S3): from `Sync`, the 26 bytes of a CRSF RC-channels frame publish its 16 values,
whatever they are below 2048, with no flags, and are mirrored. -/
def Obligations.CrsfRcFrameRoundTrip : Prop :=
  ∀ (s : State) (ch : List Half), s.crsf.st = .sync → ch.length = 16 → (∀ c ∈ ch, c.toNat < 2048) →
    s.params.crsfLenMin.toNat ≤ 24 → 24 ≤ s.params.crsfLenMax.toNat →
    ∃ D m, execAll (rxsCrsf (crsfFrame s.params s.params.crsfTypeRc (pack11 ch))) s =
        .next { s with crsf := D, mirror := m, resp := ⟨.ok, 3⟩ } ∧
      (∀ k (h : k < ch.length), D.active.valueAt k = ch[k] ∧
        D.active.classAt k = crsfClass s.params ch[k]) ∧
      D.active.cnt = 16 ∧ D.active.fl = 0 ∧ D.st = .sync ∧ D.valid = true ∧ D.has = true ∧
      D.age = 0 ∧ D.stamp = s.ticks ∧ D.frames = s.crsf.frames + 1 ∧
      m.present = true ∧ m.type = s.params.crsfTypeRc ∧ m.len = 24 ∧
      ∀ i, m.byte i = (crsfFrame s.params s.params.crsfTypeRc (pack11 ch)).getD i 0

/-- R287, R105: from `Sync`, a valid CRSF frame of any other type answers FRAME without PUB, is
mirrored byte for byte, and leaves the Channel Store and the error record unchanged. -/
def Obligations.CrsfOtherFramesAreMirrored : Prop :=
  ∀ (s : State) (type : Byte) (payload : List Byte), s.params.wellFormed = true →
    s.crsf.st = .sync → type ≠ s.params.crsfTypeRc →
    s.params.crsfLenMin.toNat ≤ payload.length + 2 →
    payload.length + 2 ≤ s.params.crsfLenMax.toNat →
    ∃ D m, execAll (rxsCrsf (crsfFrame s.params type payload)) s =
        .next { s with crsf := D, mirror := m, resp := ⟨.ok, 1⟩ } ∧
      D.SameStore s.crsf ∧ D.lastErr = s.crsf.lastErr ∧ D.frmErr = s.crsf.frmErr ∧
      D.ckErr = s.crsf.ckErr ∧ D.st = .sync ∧
      (∀ i, m.byte i = (crsfFrame s.params type payload).getD i 0) ∧
      m.present = true ∧ m.type = type ∧ m.len.toNat = payload.length + 2 ∧
      (m.ext = true ↔ s.params.crsfExtMin ≤ type ∧ 2 ≤ payload.length) ∧
      (m.ext = true → m.dest = payload.getD 0 0 ∧ m.orig = payload.getD 1 0) ∧
      (m.ext = false → m.dest = 0 ∧ m.orig = 0)

/-- R334 to R336 (S3): from `Sync`, a SumD frame of any legal number of channels and either status
publishes its values unchanged, with FAILSAFE as its status says. -/
def Obligations.SumdFrameRoundTrip : Prop :=
  ∀ (s : State) (st : Byte) (ch : List Half), s.params.wellFormed = true → s.sumd.st = .sync →
    (st = s.params.sumdStNormal ∨ st = s.params.sumdStFailsafe) →
    s.params.sumdMinCh.toNat ≤ ch.length → ch.length ≤ s.params.sumdMaxCh.toNat →
    ∃ D, execAll (rxsSumd (sumdFrame s.params st ch)) s =
        .next { s with sumd := D, resp := ⟨.ok, 3⟩ } ∧
      (∀ k (h : k < ch.length), D.active.valueAt k = ch[k] ∧
        D.active.classAt k = sumdClass s.params ch[k]) ∧
      D.active.cnt.toNat = ch.length ∧
      D.active.fl = (if st = s.params.sumdStFailsafe then 8 else 0) ∧ D.st = .sync ∧
      D.valid = true ∧ D.has = true ∧ D.age = 0 ∧ D.stamp = s.ticks ∧
      D.frames = s.sumd.frames + 1

/-- R250: changing any one of frame bytes 0 to 29 of a valid IBus frame changes the sum by a non-zero
amount below 256, and the frame is not published; a changed header byte is caught earlier. -/
def Obligations.IbusRejectsOneChangedByte : Prop :=
  ∀ (s : State) (ch : List Half) (fr : List Byte) (i : Nat) (b : Byte), s.ibus.st = .idle →
    ch.length = 14 → fr = ibusFrame s.params ch → i < 30 → b ≠ fr.getD i 0 →
    (∃ d : Half, 0 < d ∧ d < 256 ∧
      (ibusSum s.params.ibusSeed ((fr.set i b).take 30) =
          ibusSum s.params.ibusSeed (fr.take 30) + d ∨
        ibusSum s.params.ibusSeed ((fr.set i b).take 30) =
          ibusSum s.params.ibusSeed (fr.take 30) - d)) ∧
    (∃ D, execAll (rxsIbus (fr.set i b)) s = .next { s with ibus := D, resp := ⟨.ok, 0⟩ } ∧
      D.SameStore s.ibus ∧
      (2 ≤ i → D.st = .idle ∧ D.lastErr = .checksum ∧ D.ckErr = s.ibus.ckErr + 1)) ∧
    (i = 0 → ∃ t, execAll (rxsIbus ((fr.set i b).take 1)) s = .next t ∧ t.ibus.st = .idle) ∧
    (i = 1 → ∃ t, execAll (rxsIbus ((fr.set i b).take 2)) s = .next t ∧ t.ibus.st = .idle ∧
      t.ibus.lastErr = .framing ∧ t.ibus.frmErr = s.ibus.frmErr + 1)

/-- R291: changing any single type, payload or CRC byte of a valid CRSF frame makes the CRC check
fail, for every odd `CRC8_POLY`: the frame is neither published nor mirrored, and a ChecksumError is
recorded. -/
def Obligations.CrsfRejectsOneChangedByte : Prop :=
  ∀ (s : State) (type : Byte) (payload : List Byte) (i : Nat) (b : Byte),
    s.crsf.st = .sync → s.params.crc8Poly.getLsbD 0 = true →
    s.params.crsfLenMin.toNat ≤ payload.length + 2 →
    payload.length + 2 ≤ s.params.crsfLenMax.toNat →
    2 ≤ i → i < payload.length + 4 → b ≠ (crsfFrame s.params type payload).getD i 0 →
    ∃ D, execAll (rxsCrsf ((crsfFrame s.params type payload).set i b)) s =
        .next { s with crsf := D, resp := ⟨.ok, 0⟩ } ∧
      D.SameStore s.crsf ∧ D.st = .sync ∧ D.lastErr = .checksum ∧ D.ckErr = s.crsf.ckErr + 1

/-- R338: changing any single channel byte or CRC byte of a valid SumD frame, or its status to the
other legal one, makes the CRC check fail, for every odd CRC polynomial, 0x1021 among them: the frame
is not published, and a ChecksumError is recorded. An illegal status byte is a FramingError. -/
def Obligations.SumdRejectsOneChangedByte : Prop :=
  ∀ (s : State) (st : Byte) (ch : List Half) (fr : List Byte) (i : Nat) (b : Byte),
    s.params.wellFormed = true → s.sumd.st = .sync → s.params.sumdCrcPoly.getLsbD 0 = true →
    (st = s.params.sumdStNormal ∨ st = s.params.sumdStFailsafe) →
    s.params.sumdMinCh.toNat ≤ ch.length → ch.length ≤ s.params.sumdMaxCh.toNat →
    fr = sumdFrame s.params st ch → b ≠ fr.getD i 0 →
    ((3 ≤ i ∧ i < 5 + 2 * ch.length) ∨
        (i = 1 ∧ (b = s.params.sumdStNormal ∨ b = s.params.sumdStFailsafe)) →
      ∃ D, execAll (rxsSumd (fr.set i b)) s = .next { s with sumd := D, resp := ⟨.ok, 0⟩ } ∧
        D.SameStore s.sumd ∧ D.st = .sync ∧ D.lastErr = .checksum ∧
        D.ckErr = s.sumd.ckErr + 1) ∧
    (i = 1 ∧ ¬ (b = s.params.sumdStNormal ∨ b = s.params.sumdStFailsafe) →
      ∃ D, execAll (rxsSumd ((fr.set i b).take 2)) s =
          .next { s with sumd := D, resp := ⟨.ok, 0⟩ } ∧
        D.SameStore s.sumd ∧ D.st = .sync ∧ D.lastErr = .framing ∧
        D.frmErr = s.sumd.frmErr + 1)

/-- R209, R249, R290, R337: from any state of a run, at most 24, 32, 63 and 68 further bytes bring the
SBus, IBus, CRSF and SumD decoder to an idle state. -/
def Obligations.BytesReturnToIdle : Prop :=
  ∀ s : State, s.Inv →
    (∀ bs : List Byte, bs.length = 24 → ∃ k t, k ≤ 24 ∧
      execAll (rxsSbus (bs.take k)) s = .next t ∧ t.sbus.st.isIdle = true) ∧
    (∀ bs : List Byte, bs.length = 32 → ∃ k t, k ≤ 32 ∧
      execAll (rxsIbus (bs.take k)) s = .next t ∧ t.ibus.st.isIdle = true) ∧
    (∀ bs : List Byte, bs.length = 63 → ∃ k t, k ≤ 63 ∧
      execAll (rxsCrsf (bs.take k)) s = .next t ∧ t.crsf.st.isIdle = true) ∧
    (∀ bs : List Byte, bs.length = 68 → ∃ k t, k ≤ 68 ∧
      execAll (rxsSumd (bs.take k)) s = .next t ∧ t.sumd.st.isIdle = true)

/-- R498: recovery. From any state of a run, `T_BYTE_<P>` > 0 TICKs without a byte to a decoder,
whatever other commands come between, and then one complete valid frame for it, publish that frame on
its last byte. -/
def Obligations.RecoveryAfterSilence : Prop :=
  ∀ (s : State) (is : List Instr), s.Inv →
    (∀ (ch : List Half) (fl : Byte), (∀ b, Instr.rxSbus b ∉ is) → s.params.tByteSbus ≠ 0 →
      s.params.tByteSbus.toNat ≤ is.count .tick → ch.length = 16 →
      ∃ t, execAll (is ++ rxsSbus (sbusFrame s.params ch fl)) s = .next t ∧ t.resp = ⟨.ok, 3⟩) ∧
    (∀ ch : List Half, (∀ b, Instr.rxIbus b ∉ is) → s.params.tByteIbus ≠ 0 →
      s.params.tByteIbus.toNat ≤ is.count .tick → ch.length = 14 →
      ∃ t, execAll (is ++ rxsIbus (ibusFrame s.params ch)) s = .next t ∧ t.resp = ⟨.ok, 3⟩) ∧
    (∀ payload : List Byte, (∀ b, Instr.rxCrsf b ∉ is) → s.params.tByteCrsf ≠ 0 →
      s.params.tByteCrsf.toNat ≤ is.count .tick → payload.length = 22 →
      s.params.crsfLenMin.toNat ≤ 24 → 24 ≤ s.params.crsfLenMax.toNat →
      ∃ t, execAll (is ++ rxsCrsf (crsfFrame s.params s.params.crsfTypeRc payload)) s = .next t ∧
        t.resp = ⟨.ok, 3⟩) ∧
    (∀ (st : Byte) (ch : List Half), (∀ b, Instr.rxSumd b ∉ is) → s.params.tByteSumd ≠ 0 →
      s.params.tByteSumd.toNat ≤ is.count .tick →
      (st = s.params.sumdStNormal ∨ st = s.params.sumdStFailsafe) →
      s.params.sumdMinCh.toNat ≤ ch.length → ch.length ≤ s.params.sumdMaxCh.toNat →
      ∃ t, execAll (is ++ rxsSumd (sumdFrame s.params st ch)) s = .next t ∧ t.resp = ⟨.ok, 3⟩)

/-! ### Port level -/

/-- R108: an edge does exactly what its commands do, one after the other in the fixed order: RESET and
nothing else with `rst`; otherwise a read on `cmd`, TICK, the RX of SBus, IBus, CRSF and SumD, and a
`cmd` word that is no read, through the states `s1` to `s6`. `rx_pub[P]` is bit 1 of that decoder's RX
response, and the edge's response is that of its `cmd` word. That there is none without a `cmd` word
that was executed is the MODEL's choice (log 12). -/
def Obligations.EdgeRunsItsCommandsInOrder : Prop :=
  ∀ (e : PortInput) (s : State), ∃ t o, clockEdge e s = .next (t, o) ∧
    executeWords (portCommands e) s = .next t ∧
    (e.rst = true → exec .reset s = .next t ∧ o = ⟨none, false, false, false, false⟩) ∧
    (e.rst = false → ∃ s1 s2 s3 s4 s5 s6,
      executeWords (e.cmd.filter isReadWord).toList s = .next s1 ∧
      execAll (if e.tick then [.tick] else []) s1 = .next s2 ∧
      execAll (e.rxSbus.map .rxSbus).toList s2 = .next s3 ∧
      execAll (e.rxIbus.map .rxIbus).toList s3 = .next s4 ∧
      execAll (e.rxCrsf.map .rxCrsf).toList s4 = .next s5 ∧
      execAll (e.rxSumd.map .rxSumd).toList s5 = .next s6 ∧
      executeWords (e.cmd.filter fun w => !isReadWord w).toList s6 = .next t ∧
      o.pubSbus = (e.rxSbus.isSome && s3.resp.value.getLsbD 1) ∧
      o.pubIbus = (e.rxIbus.isSome && s4.resp.value.getLsbD 1) ∧
      o.pubCrsf = (e.rxCrsf.isSome && s5.resp.value.getLsbD 1) ∧
      o.pubSumd = (e.rxSumd.isSome && s6.resp.value.getLsbD 1) ∧
      (∀ w, e.cmd = some w → o.resp = some (if isReadWord w then s1.resp else t.resp)) ∧
      (e.cmd = none → o.resp = none))

/-- R108, R497 item 1: the reads are the words of `RD.<P>`, `RD.TIME` and `CRC8.RD`, and a read on the
`cmd` port answers from the state before the same edge's updates, so it returns the old frame. -/
def Obligations.EdgeReadSeesTheOldState : Prop :=
  (∀ w, isReadWord w = true ↔
    (∃ a, decode w = .ok (.rdSbus a) ∨ decode w = .ok (.rdIbus a) ∨ decode w = .ok (.rdCrsf a) ∨
      decode w = .ok (.rdSumd a)) ∨
    decode w = .ok .rdTime ∨ decode w = .ok .crc8Rd) ∧
  ∀ (e : PortInput) (w : CmdWord) (s u t : State) (o : PortOutput),
    e.rst = false → e.cmd = some w → isReadWord w = true →
    executeWord w s = .next u → clockEdge e s = .next (t, o) → o.resp = some u.resp

/-- R497 item 2, for every decoder: on an edge with TICK and an RX byte the TICK runs first: a byte
that arrives on the edge that reaches `T_BYTE_<P>` is too late; the partial frame is aborted, and the
byte is judged in the idle state. What the edge brings the other decoders, and a read on its `cmd`
port, make no difference. -/
def Obligations.EdgeByteIsTooLateForItsTick : Prop :=
  ∀ (e : PortInput) (s : State) (b : Byte), e.rst = false → e.tick = true →
    (∀ w, e.cmd = some w → isReadWord w = true) →
    ∃ t o, clockEdge e s = .next (t, o) ∧
      (e.rxSbus = some b → GapFires sbusProtocol s.params s.sbus →
        o.pubSbus = false ∧ t.sbus.frames = s.sbus.frames ∧ t.sbus.frmErr = s.sbus.frmErr + 1 ∧
        t.sbus.exp = 0 ∧ t.sbus.gap = 0 ∧ t.sbus.idx = 0 ∧
        t.sbus.st = (if b = s.params.sbusStart then .data else .undefined)) ∧
      (e.rxIbus = some b → GapFires ibusProtocol s.params s.ibus →
        o.pubIbus = false ∧ t.ibus.frames = s.ibus.frames ∧ t.ibus.frmErr = s.ibus.frmErr + 1 ∧
        t.ibus.exp = 0 ∧ t.ibus.gap = 0 ∧ t.ibus.idx = (if b = s.params.ibusHdr0 then 1 else 0) ∧
        t.ibus.st = (if b = s.params.ibusHdr0 then .hdr else .idle)) ∧
      (e.rxCrsf = some b → GapFires crsfProtocol s.params s.crsf →
        o.pubCrsf = false ∧ t.crsf.frames = s.crsf.frames ∧ t.crsf.frmErr = s.crsf.frmErr + 1 ∧
        t.crsf.exp = 0 ∧ t.crsf.gap = 0 ∧ t.crsf.idx = 0 ∧ t.mirror = s.mirror ∧
        t.crsf.st = (if b = s.params.crsfSync then .len else .sync)) ∧
      (e.rxSumd = some b → GapFires sumdProtocol s.params s.sumd →
        o.pubSumd = false ∧ t.sumd.frames = s.sumd.frames ∧ t.sumd.frmErr = s.sumd.frmErr + 1 ∧
        t.sumd.exp = 0 ∧ t.sumd.gap = 0 ∧ t.sumd.idx = 0 ∧
        t.sumd.st = (if b = s.params.sumdSync then .status else .sync))

/-- R497 item 3, for every decoder: an ABORT on the edge of an RX byte runs after it: it drops a
partial frame that includes the byte, but a frame the byte completes is already published (and a CRSF
frame mirrored). `u` is the state the byte alone would leave. -/
def Obligations.EdgeAbortRunsAfterTheByte : Prop :=
  ∀ (e : PortInput) (s u : State) (b : Byte), e.rst = false → e.tick = false →
    ∃ t o, clockEdge e s = .next (t, o) ∧
      (e.cmd = some (encode .abortSbus) → e.rxSbus = some b → exec (.rxSbus b) s = .next u →
        o.resp = some ⟨.ok, 0⟩ ∧
        AbortedAfterByte .undefined o.pubSbus u.resp s.sbus u.sbus t.sbus) ∧
      (e.cmd = some (encode .abortIbus) → e.rxIbus = some b → exec (.rxIbus b) s = .next u →
        o.resp = some ⟨.ok, 0⟩ ∧
        AbortedAfterByte .idle o.pubIbus u.resp s.ibus u.ibus t.ibus) ∧
      (e.cmd = some (encode .abortCrsf) → e.rxCrsf = some b → exec (.rxCrsf b) s = .next u →
        o.resp = some ⟨.ok, 0⟩ ∧ t.mirror = u.mirror ∧
        AbortedAfterByte .sync o.pubCrsf u.resp s.crsf u.crsf t.crsf) ∧
      (e.cmd = some (encode .abortSumd) → e.rxSumd = some b → exec (.rxSumd b) s = .next u →
        o.resp = some ⟨.ok, 0⟩ ∧
        AbortedAfterByte .sync o.pubSumd u.resp s.sumd u.sumd t.sumd)

/-- R108, R497 item 4: `rst` overrides every other input on its edge. That the waiting commands are
kept is the MODEL's reading (log 17), and that the buffers `D.BUF`, which R53 leaves unspecified, are
zeros is its choice (log 5). -/
def Obligations.EdgeResetOverridesAll : Prop :=
  ∀ (e : PortInput) (s : State), e.rst = true →
    ∃ o, clockEdge e s =
      .next ({ State.resetWith s.params with pending := s.pending, resp := ⟨.ok, 0⟩ }, o)

/-! ### The assembly syntax -/

/-- R114: the rule's own examples, and an operand that does not fit, for which no word is produced. -/
def Obligations.AssemblyExamples : Prop :=
  ∀ p : Params,
    assembleLine p "RX.SBUS 0x0F".toList = .ok [0x100F] ∧
    assembleLine p "RD.CRSF STATUS".toList = .ok [0x3820] ∧
    assembleLine p "CRC8.FEED 49".toList = .ok [0x5031] ∧
    assembleLine p "TICK".toList = .ok [0x2000] ∧
    assembleLine p "RX.SBUS 256".toList = .error .doesNotFit
end

