-- ==== Sys2Proof/Laws/Bits.lean ====
section
/-! SUPPORT. The bits of a placed field. -/

namespace Sys2Proof

/-- Bit `i` of a placed field. -/
@[simp] theorem getLsbD_place (w lo : Nat) {k : Nat} (v : BitVec k) (i : Nat) :
    (place w lo v).getLsbD i = (decide (i < w) && decide (lo ≤ i) && v.getLsbD (i - lo)) := by
  unfold place
  rw [BitVec.getLsbD_shiftLeft, BitVec.getLsbD_setWidth]
  by_cases h : i < w
  · have : i - lo < w := by omega
    by_cases hl : lo ≤ i
    · simp [h, this, hl]
    · simp [hl, Nat.lt_of_not_le hl]
  · simp [h]

/-- Bit `i` of a placed field, within the word. -/
@[simp] theorem getElem_place (w lo : Nat) {k : Nat} (v : BitVec k) (i : Nat) (h : i < w) :
    (place w lo v)[i] = (decide (lo ≤ i) && v.getLsbD (i - lo)) := by
  rw [← BitVec.getLsbD_eq_getElem, getLsbD_place]
  simp [h]

/-- Equality with a field of a word, bit by bit: the way to read a field of a word of placed
fields. -/
theorem extractLsb'_eq_iff {w k : Nat} (x : BitVec w) (lo : Nat) (v : BitVec k) :
    x.extractLsb' lo k = v ↔ ∀ i, i < k → x.getLsbD (lo + i) = v.getLsbD i := by
  constructor
  · rintro rfl i hi
    rw [BitVec.getLsbD_extractLsb']
    simp [hi]
  · intro h
    apply BitVec.eq_of_getLsbD_eq
    intro i hi
    rw [BitVec.getLsbD_extractLsb', h i hi]
    simp [hi]

end Sys2Proof
end

