-- ==== Sys2Proof/Laws/Checksum.lean ====
section
/-! SUPPORT. How the checksums run over sequences of bytes (R370, R372, R374). -/

namespace Sys2Proof.Machine

@[simp] theorem ibusSum_nil (seed : Half) : ibusSum seed [] = seed := rfl

@[simp] theorem crc8_nil (poly init : Byte) : crc8 poly init [] = init := rfl

@[simp] theorem crc16_nil (poly init : Half) : crc16 poly init [] = init := rfl

theorem ibusSum_append (seed : Half) (xs ys : List Byte) :
    ibusSum seed (xs ++ ys) = ibusSum (ibusSum seed xs) ys := by
  simp [ibusSum, List.foldl_append]

theorem crc8_append (poly init : Byte) (xs ys : List Byte) :
    crc8 poly init (xs ++ ys) = crc8 poly (crc8 poly init xs) ys := by
  simp [crc8, List.foldl_append]

theorem crc16_append (poly init : Half) (xs ys : List Byte) :
    crc16 poly init (xs ++ ys) = crc16 poly (crc16 poly init xs) ys := by
  simp [crc16, List.foldl_append]

/-- One more byte of an IBus sum (R241). -/
theorem ibusSum_snoc (seed : Half) (xs : List Byte) (b : Byte) :
    ibusSum seed (xs ++ [b]) = sum16Step (ibusSum seed xs) b := by
  rw [ibusSum_append]
  rfl

/-- One more byte of a CRC-8 (R372). -/
theorem crc8_snoc (poly init : Byte) (xs : List Byte) (b : Byte) :
    crc8 poly init (xs ++ [b]) = crc8Step poly (crc8 poly init xs) b := by
  rw [crc8_append]
  rfl

/-- One more byte of a CRC-16 (R374). -/
theorem crc16_snoc (poly init : Half) (xs : List Byte) (b : Byte) :
    crc16 poly init (xs ++ [b]) = crc16Step poly (crc16 poly init xs) b := by
  rw [crc16_append]
  rfl

end Sys2Proof.Machine
end

