-- ==== Sys2Proof/Laws/State.lean ====
section
/-! SUPPORT. One lemma per field per named update of State, so that no proof unfolds an update; and the
same for the composite updates (R410, R52, R406, R401). -/

namespace Sys2Proof.Machine

/-! ### `State.setResp` -/

@[simp] theorem State.setResp_params (s : State) (r : Response) :
    (s.setResp r).params = s.params := rfl

@[simp] theorem State.setResp_ticks (s : State) (r : Response) :
    (s.setResp r).ticks = s.ticks := rfl

@[simp] theorem State.setResp_crc8Acc (s : State) (r : Response) :
    (s.setResp r).crc8Acc = s.crc8Acc := rfl

@[simp] theorem State.setResp_sbus (s : State) (r : Response) :
    (s.setResp r).sbus = s.sbus := rfl

@[simp] theorem State.setResp_ibus (s : State) (r : Response) :
    (s.setResp r).ibus = s.ibus := rfl

@[simp] theorem State.setResp_crsf (s : State) (r : Response) :
    (s.setResp r).crsf = s.crsf := rfl

@[simp] theorem State.setResp_mirror (s : State) (r : Response) :
    (s.setResp r).mirror = s.mirror := rfl

@[simp] theorem State.setResp_sumd (s : State) (r : Response) :
    (s.setResp r).sumd = s.sumd := rfl

@[simp] theorem State.setResp_resp (s : State) (r : Response) :
    (s.setResp r).resp = r := rfl

@[simp] theorem State.setResp_pending (s : State) (r : Response) :
    (s.setResp r).pending = s.pending := rfl

/-! ### `State.setTicks` -/

@[simp] theorem State.setTicks_params (s : State) (v : Word) :
    (s.setTicks v).params = s.params := rfl

@[simp] theorem State.setTicks_ticks (s : State) (v : Word) :
    (s.setTicks v).ticks = v := rfl

@[simp] theorem State.setTicks_crc8Acc (s : State) (v : Word) :
    (s.setTicks v).crc8Acc = s.crc8Acc := rfl

@[simp] theorem State.setTicks_sbus (s : State) (v : Word) :
    (s.setTicks v).sbus = s.sbus := rfl

@[simp] theorem State.setTicks_ibus (s : State) (v : Word) :
    (s.setTicks v).ibus = s.ibus := rfl

@[simp] theorem State.setTicks_crsf (s : State) (v : Word) :
    (s.setTicks v).crsf = s.crsf := rfl

@[simp] theorem State.setTicks_mirror (s : State) (v : Word) :
    (s.setTicks v).mirror = s.mirror := rfl

@[simp] theorem State.setTicks_sumd (s : State) (v : Word) :
    (s.setTicks v).sumd = s.sumd := rfl

@[simp] theorem State.setTicks_resp (s : State) (v : Word) :
    (s.setTicks v).resp = s.resp := rfl

@[simp] theorem State.setTicks_pending (s : State) (v : Word) :
    (s.setTicks v).pending = s.pending := rfl

/-! ### `State.setCrc8Acc` -/

@[simp] theorem State.setCrc8Acc_params (s : State) (c : Byte) :
    (s.setCrc8Acc c).params = s.params := rfl

@[simp] theorem State.setCrc8Acc_ticks (s : State) (c : Byte) :
    (s.setCrc8Acc c).ticks = s.ticks := rfl

@[simp] theorem State.setCrc8Acc_crc8Acc (s : State) (c : Byte) :
    (s.setCrc8Acc c).crc8Acc = c := rfl

@[simp] theorem State.setCrc8Acc_sbus (s : State) (c : Byte) :
    (s.setCrc8Acc c).sbus = s.sbus := rfl

@[simp] theorem State.setCrc8Acc_ibus (s : State) (c : Byte) :
    (s.setCrc8Acc c).ibus = s.ibus := rfl

@[simp] theorem State.setCrc8Acc_crsf (s : State) (c : Byte) :
    (s.setCrc8Acc c).crsf = s.crsf := rfl

@[simp] theorem State.setCrc8Acc_mirror (s : State) (c : Byte) :
    (s.setCrc8Acc c).mirror = s.mirror := rfl

@[simp] theorem State.setCrc8Acc_sumd (s : State) (c : Byte) :
    (s.setCrc8Acc c).sumd = s.sumd := rfl

@[simp] theorem State.setCrc8Acc_resp (s : State) (c : Byte) :
    (s.setCrc8Acc c).resp = s.resp := rfl

@[simp] theorem State.setCrc8Acc_pending (s : State) (c : Byte) :
    (s.setCrc8Acc c).pending = s.pending := rfl

/-! ### `State.setSbus` -/

@[simp] theorem State.setSbus_params (s : State) (D : SbusDecoder) :
    (s.setSbus D).params = s.params := rfl

@[simp] theorem State.setSbus_ticks (s : State) (D : SbusDecoder) :
    (s.setSbus D).ticks = s.ticks := rfl

@[simp] theorem State.setSbus_crc8Acc (s : State) (D : SbusDecoder) :
    (s.setSbus D).crc8Acc = s.crc8Acc := rfl

@[simp] theorem State.setSbus_sbus (s : State) (D : SbusDecoder) :
    (s.setSbus D).sbus = D := rfl

@[simp] theorem State.setSbus_ibus (s : State) (D : SbusDecoder) :
    (s.setSbus D).ibus = s.ibus := rfl

@[simp] theorem State.setSbus_crsf (s : State) (D : SbusDecoder) :
    (s.setSbus D).crsf = s.crsf := rfl

@[simp] theorem State.setSbus_mirror (s : State) (D : SbusDecoder) :
    (s.setSbus D).mirror = s.mirror := rfl

@[simp] theorem State.setSbus_sumd (s : State) (D : SbusDecoder) :
    (s.setSbus D).sumd = s.sumd := rfl

@[simp] theorem State.setSbus_resp (s : State) (D : SbusDecoder) :
    (s.setSbus D).resp = s.resp := rfl

@[simp] theorem State.setSbus_pending (s : State) (D : SbusDecoder) :
    (s.setSbus D).pending = s.pending := rfl

/-! ### `State.setIbus` -/

@[simp] theorem State.setIbus_params (s : State) (D : IbusDecoder) :
    (s.setIbus D).params = s.params := rfl

@[simp] theorem State.setIbus_ticks (s : State) (D : IbusDecoder) :
    (s.setIbus D).ticks = s.ticks := rfl

@[simp] theorem State.setIbus_crc8Acc (s : State) (D : IbusDecoder) :
    (s.setIbus D).crc8Acc = s.crc8Acc := rfl

@[simp] theorem State.setIbus_sbus (s : State) (D : IbusDecoder) :
    (s.setIbus D).sbus = s.sbus := rfl

@[simp] theorem State.setIbus_ibus (s : State) (D : IbusDecoder) :
    (s.setIbus D).ibus = D := rfl

@[simp] theorem State.setIbus_crsf (s : State) (D : IbusDecoder) :
    (s.setIbus D).crsf = s.crsf := rfl

@[simp] theorem State.setIbus_mirror (s : State) (D : IbusDecoder) :
    (s.setIbus D).mirror = s.mirror := rfl

@[simp] theorem State.setIbus_sumd (s : State) (D : IbusDecoder) :
    (s.setIbus D).sumd = s.sumd := rfl

@[simp] theorem State.setIbus_resp (s : State) (D : IbusDecoder) :
    (s.setIbus D).resp = s.resp := rfl

@[simp] theorem State.setIbus_pending (s : State) (D : IbusDecoder) :
    (s.setIbus D).pending = s.pending := rfl

/-! ### `State.setCrsf` -/

@[simp] theorem State.setCrsf_params (s : State) (D : CrsfDecoder) :
    (s.setCrsf D).params = s.params := rfl

@[simp] theorem State.setCrsf_ticks (s : State) (D : CrsfDecoder) :
    (s.setCrsf D).ticks = s.ticks := rfl

@[simp] theorem State.setCrsf_crc8Acc (s : State) (D : CrsfDecoder) :
    (s.setCrsf D).crc8Acc = s.crc8Acc := rfl

@[simp] theorem State.setCrsf_sbus (s : State) (D : CrsfDecoder) :
    (s.setCrsf D).sbus = s.sbus := rfl

@[simp] theorem State.setCrsf_ibus (s : State) (D : CrsfDecoder) :
    (s.setCrsf D).ibus = s.ibus := rfl

@[simp] theorem State.setCrsf_crsf (s : State) (D : CrsfDecoder) :
    (s.setCrsf D).crsf = D := rfl

@[simp] theorem State.setCrsf_mirror (s : State) (D : CrsfDecoder) :
    (s.setCrsf D).mirror = s.mirror := rfl

@[simp] theorem State.setCrsf_sumd (s : State) (D : CrsfDecoder) :
    (s.setCrsf D).sumd = s.sumd := rfl

@[simp] theorem State.setCrsf_resp (s : State) (D : CrsfDecoder) :
    (s.setCrsf D).resp = s.resp := rfl

@[simp] theorem State.setCrsf_pending (s : State) (D : CrsfDecoder) :
    (s.setCrsf D).pending = s.pending := rfl

/-! ### `State.setMirror` -/

@[simp] theorem State.setMirror_params (s : State) (m : Mirror) :
    (s.setMirror m).params = s.params := rfl

@[simp] theorem State.setMirror_ticks (s : State) (m : Mirror) :
    (s.setMirror m).ticks = s.ticks := rfl

@[simp] theorem State.setMirror_crc8Acc (s : State) (m : Mirror) :
    (s.setMirror m).crc8Acc = s.crc8Acc := rfl

@[simp] theorem State.setMirror_sbus (s : State) (m : Mirror) :
    (s.setMirror m).sbus = s.sbus := rfl

@[simp] theorem State.setMirror_ibus (s : State) (m : Mirror) :
    (s.setMirror m).ibus = s.ibus := rfl

@[simp] theorem State.setMirror_crsf (s : State) (m : Mirror) :
    (s.setMirror m).crsf = s.crsf := rfl

@[simp] theorem State.setMirror_mirror (s : State) (m : Mirror) :
    (s.setMirror m).mirror = m := rfl

@[simp] theorem State.setMirror_sumd (s : State) (m : Mirror) :
    (s.setMirror m).sumd = s.sumd := rfl

@[simp] theorem State.setMirror_resp (s : State) (m : Mirror) :
    (s.setMirror m).resp = s.resp := rfl

@[simp] theorem State.setMirror_pending (s : State) (m : Mirror) :
    (s.setMirror m).pending = s.pending := rfl

/-! ### `State.setSumd` -/

@[simp] theorem State.setSumd_params (s : State) (D : SumdDecoder) :
    (s.setSumd D).params = s.params := rfl

@[simp] theorem State.setSumd_ticks (s : State) (D : SumdDecoder) :
    (s.setSumd D).ticks = s.ticks := rfl

@[simp] theorem State.setSumd_crc8Acc (s : State) (D : SumdDecoder) :
    (s.setSumd D).crc8Acc = s.crc8Acc := rfl

@[simp] theorem State.setSumd_sbus (s : State) (D : SumdDecoder) :
    (s.setSumd D).sbus = s.sbus := rfl

@[simp] theorem State.setSumd_ibus (s : State) (D : SumdDecoder) :
    (s.setSumd D).ibus = s.ibus := rfl

@[simp] theorem State.setSumd_crsf (s : State) (D : SumdDecoder) :
    (s.setSumd D).crsf = s.crsf := rfl

@[simp] theorem State.setSumd_mirror (s : State) (D : SumdDecoder) :
    (s.setSumd D).mirror = s.mirror := rfl

@[simp] theorem State.setSumd_sumd (s : State) (D : SumdDecoder) :
    (s.setSumd D).sumd = D := rfl

@[simp] theorem State.setSumd_resp (s : State) (D : SumdDecoder) :
    (s.setSumd D).resp = s.resp := rfl

@[simp] theorem State.setSumd_pending (s : State) (D : SumdDecoder) :
    (s.setSumd D).pending = s.pending := rfl

/-! ### `State.setPending` -/

@[simp] theorem State.setPending_params (s : State) (q : List CmdWord) :
    (s.setPending q).params = s.params := rfl

@[simp] theorem State.setPending_ticks (s : State) (q : List CmdWord) :
    (s.setPending q).ticks = s.ticks := rfl

@[simp] theorem State.setPending_crc8Acc (s : State) (q : List CmdWord) :
    (s.setPending q).crc8Acc = s.crc8Acc := rfl

@[simp] theorem State.setPending_sbus (s : State) (q : List CmdWord) :
    (s.setPending q).sbus = s.sbus := rfl

@[simp] theorem State.setPending_ibus (s : State) (q : List CmdWord) :
    (s.setPending q).ibus = s.ibus := rfl

@[simp] theorem State.setPending_crsf (s : State) (q : List CmdWord) :
    (s.setPending q).crsf = s.crsf := rfl

@[simp] theorem State.setPending_mirror (s : State) (q : List CmdWord) :
    (s.setPending q).mirror = s.mirror := rfl

@[simp] theorem State.setPending_sumd (s : State) (q : List CmdWord) :
    (s.setPending q).sumd = s.sumd := rfl

@[simp] theorem State.setPending_resp (s : State) (q : List CmdWord) :
    (s.setPending q).resp = s.resp := rfl

@[simp] theorem State.setPending_pending (s : State) (q : List CmdWord) :
    (s.setPending q).pending = q := rfl

/-! ### The composite updates -/

@[simp] theorem State.illegal_eq (s : State) : s.illegal = s.setResp respIllegal := rfl

@[simp] theorem State.answerCrc8_eq (s : State) :
    s.answerCrc8 = s.setResp (respOk (s.crc8Acc.setWidth 32)) := rfl

@[simp] theorem State.answerRead_some (s : State) (w : Word) :
    s.answerRead (some w) = s.setResp (respOk w) := rfl

@[simp] theorem State.answerRead_none (s : State) : s.answerRead none = s.setResp respIllegal := rfl

/-- A read changes the response alone (R73). -/
theorem State.answerRead_frame (s : State) (o : Option Word) :
    ∃ r, s.answerRead o = s.setResp r := by
  cases o with
  | none => exact ⟨_, rfl⟩
  | some w => exact ⟨_, rfl⟩

/-- What `TICK` does to the state, each decoder by `tickDecoder` (R401). -/
theorem State.advance_eq (s : State) :
    s.advance = ((((s.setTicks (s.ticks + 1)).setSbus (tickDecoder sbusProtocol s.params s.sbus)).setIbus
      (tickDecoder ibusProtocol s.params s.ibus)).setCrsf
      (tickDecoder crsfProtocol s.params s.crsf)).setSumd
      (tickDecoder sumdProtocol s.params s.sumd) := rfl

@[simp] theorem State.advance_params (s : State) : s.advance.params = s.params := rfl

@[simp] theorem State.advance_ticks (s : State) : s.advance.ticks = s.ticks + 1 := rfl

@[simp] theorem State.advance_crc8Acc (s : State) : s.advance.crc8Acc = s.crc8Acc := rfl

@[simp] theorem State.advance_sbus (s : State) : s.advance.sbus = tickDecoder sbusProtocol s.params s.sbus := rfl

@[simp] theorem State.advance_ibus (s : State) : s.advance.ibus = tickDecoder ibusProtocol s.params s.ibus := rfl

@[simp] theorem State.advance_crsf (s : State) : s.advance.crsf = tickDecoder crsfProtocol s.params s.crsf := rfl

@[simp] theorem State.advance_mirror (s : State) : s.advance.mirror = s.mirror := rfl

@[simp] theorem State.advance_sumd (s : State) : s.advance.sumd = tickDecoder sumdProtocol s.params s.sumd := rfl

@[simp] theorem State.advance_resp (s : State) : s.advance.resp = s.resp := rfl

@[simp] theorem State.advance_pending (s : State) : s.advance.pending = s.pending := rfl

/-- The reset state of an instance has its parameters, and no command waits in it. -/
@[simp] theorem State.resetWith_params (p : Params) : (State.resetWith p).params = p := rfl

@[simp] theorem State.resetWith_pending (p : Params) : (State.resetWith p).pending = [] := rfl

/-- A word issued first is the one fetched, and taking it gives the state back (log 1). -/
theorem fetch_issueFirst (s : State) (w : CmdWord) : fetch (s.issueFirst w) = some (w, s) := rfl

end Sys2Proof.Machine
end

