-- ==== Sys2Proof/Laws/Commands.lean ====
section
/-! SUPPORT. Running sequences of commands: the equations of `execAll` and `executeWords`, and how
they split at `++`. -/

namespace Sys2Proof.Machine

@[simp] theorem andThen_next {α β : Type} (a : α) (f : α → Host.Outcome β Fault Refusal) :
    andThen (.next a) f = f a := rfl

/-- `andThen` answers a next state only through one of its first part. -/
theorem andThen_eq_next {α β : Type} {o : Host.Outcome α Fault Refusal}
    {f : α → Host.Outcome β Fault Refusal} {t : β} (h : andThen o f = .next t) :
    ∃ a, o = .next a ∧ f a = .next t := by
  cases o with
  | next a => exact ⟨a, rfl, h⟩
  | fault r => cases h
  | refused r => cases h

@[simp] theorem execAll_nil (s : State) : execAll [] s = .next s := rfl

@[simp] theorem execAll_cons (i : Instr) (is : List Instr) (s : State) :
    execAll (i :: is) s = andThen (exec i s) (execAll is) := rfl

theorem execAll_append (is js : List Instr) (s : State) :
    execAll (is ++ js) s = andThen (execAll is s) (execAll js) := by
  induction is generalizing s with
  | nil => rfl
  | cons i is ih =>
    simp only [List.cons_append, execAll_cons]
    cases exec i s with
    | next t => exact ih t
    | fault r => rfl
    | refused r => rfl

@[simp] theorem executeWords_nil (s : State) : executeWords [] s = .next s := rfl

@[simp] theorem executeWords_cons (w : CmdWord) (ws : List CmdWord) (s : State) :
    executeWords (w :: ws) s = andThen (executeWord w s) (executeWords ws) := rfl

theorem executeWords_append (ws vs : List CmdWord) (s : State) :
    executeWords (ws ++ vs) s = andThen (executeWords ws s) (executeWords vs) := by
  induction ws generalizing s with
  | nil => rfl
  | cons w ws ih =>
    simp only [List.cons_append, executeWords_cons]
    cases executeWord w s with
    | next t => exact ih t
    | fault r => rfl
    | refused r => rfl

/-- A word that decodes is executed as its command (R107). -/
theorem executeWord_ok {w : CmdWord} {i : Instr} (h : decode w = .ok i) (s : State) :
    executeWord w s = exec i s := by
  unfold executeWord
  rw [h]

/-- An illegal word is executed as R410. -/
theorem executeWord_error {w : CmdWord} {e : Illegal} (h : decode w = .error e) (s : State) :
    executeWord w s = .next (s.setResp respIllegal) := by
  unfold executeWord
  rw [h]
  rfl

end Sys2Proof.Machine
end

