-- ==== Sys2Proof/Laws/Decoder.lean ====
section
/-! SUPPORT. What each shared operation on a decoder does to each field, and the one case lemma of each
timer step. -/

namespace Sys2Proof.Machine

section
variable {σ : Type} {n cap : Nat}

/-! ### `D.BUF[i] ← b` -/

@[simp] theorem Decoder.putByte_st (D : Decoder σ n cap) (i : Nat) (b : Byte) :
    (D.putByte i b).st = D.st := rfl

@[simp] theorem Decoder.putByte_idx (D : Decoder σ n cap) (i : Nat) (b : Byte) :
    (D.putByte i b).idx = D.idx := rfl

@[simp] theorem Decoder.putByte_exp (D : Decoder σ n cap) (i : Nat) (b : Byte) :
    (D.putByte i b).exp = D.exp := rfl

@[simp] theorem Decoder.putByte_acc (D : Decoder σ n cap) (i : Nat) (b : Byte) :
    (D.putByte i b).acc = D.acc := rfl

@[simp] theorem Decoder.putByte_gap (D : Decoder σ n cap) (i : Nat) (b : Byte) :
    (D.putByte i b).gap = D.gap := rfl

@[simp] theorem Decoder.putByte_bank0 (D : Decoder σ n cap) (i : Nat) (b : Byte) :
    (D.putByte i b).bank0 = D.bank0 := rfl

@[simp] theorem Decoder.putByte_bank1 (D : Decoder σ n cap) (i : Nat) (b : Byte) :
    (D.putByte i b).bank1 = D.bank1 := rfl

@[simp] theorem Decoder.putByte_act (D : Decoder σ n cap) (i : Nat) (b : Byte) :
    (D.putByte i b).act = D.act := rfl

@[simp] theorem Decoder.putByte_valid (D : Decoder σ n cap) (i : Nat) (b : Byte) :
    (D.putByte i b).valid = D.valid := rfl

@[simp] theorem Decoder.putByte_has (D : Decoder σ n cap) (i : Nat) (b : Byte) :
    (D.putByte i b).has = D.has := rfl

@[simp] theorem Decoder.putByte_age (D : Decoder σ n cap) (i : Nat) (b : Byte) :
    (D.putByte i b).age = D.age := rfl

@[simp] theorem Decoder.putByte_stamp (D : Decoder σ n cap) (i : Nat) (b : Byte) :
    (D.putByte i b).stamp = D.stamp := rfl

@[simp] theorem Decoder.putByte_lastErr (D : Decoder σ n cap) (i : Nat) (b : Byte) :
    (D.putByte i b).lastErr = D.lastErr := rfl

@[simp] theorem Decoder.putByte_frmErr (D : Decoder σ n cap) (i : Nat) (b : Byte) :
    (D.putByte i b).frmErr = D.frmErr := rfl

@[simp] theorem Decoder.putByte_ckErr (D : Decoder σ n cap) (i : Nat) (b : Byte) :
    (D.putByte i b).ckErr = D.ckErr := rfl

@[simp] theorem Decoder.putByte_frames (D : Decoder σ n cap) (i : Nat) (b : Byte) :
    (D.putByte i b).frames = D.frames := rfl

/-- A byte of the buffer after a write: the byte written at its index, if the buffer has it, and
every other byte as it was. -/
theorem Decoder.byte_putByte (D : Decoder σ n cap) (i j : Nat) (b : Byte) :
    (D.putByte i b).byte j = if i = j ∧ i < n then b else D.byte j := by
  unfold Decoder.byte Decoder.putByte
  by_cases hij : i = j
  · subst hij
    by_cases hi : i < n <;> simp [hi]
  · simp [hij]

theorem Decoder.byte_putByte_same (D : Decoder σ n cap) (i : Nat) (b : Byte) (h : i < n) :
    (D.putByte i b).byte i = b := by
  simp [D.byte_putByte, h]

theorem Decoder.byte_putByte_ne (D : Decoder σ n cap) (i j : Nat) (b : Byte) (h : i ≠ j) :
    (D.putByte i b).byte j = D.byte j := by
  simp [D.byte_putByte, h]

/-- A byte depends on the buffer alone. -/
theorem Decoder.byte_congr {D E : Decoder σ n cap} (h : D.buf = E.buf) (i : Nat) :
    D.byte i = E.byte i := by
  unfold Decoder.byte
  rw [h]

@[simp] theorem Decoder.bytes_length (D : Decoder σ n cap) (first len : Nat) :
    (D.bytes first len).length = len := by
  simp [Decoder.bytes]

/-- A run of buffer bytes with one more byte. -/
theorem Decoder.bytes_succ (D : Decoder σ n cap) (first len : Nat) :
    D.bytes first (len + 1) = D.bytes first len ++ [D.byte (first + len)] := by
  simp [Decoder.bytes, List.range_succ]

/-! ### Banks -/

@[simp] theorem Decoder.bank_true (D : Decoder σ n cap) : D.bank true = D.bank1 := rfl

@[simp] theorem Decoder.bank_false (D : Decoder σ n cap) : D.bank false = D.bank0 := rfl

/-- A bank after a bank was replaced. -/
theorem Decoder.bank_putBank (D : Decoder σ n cap) (a b : Bool) (B : Bank cap) :
    (D.putBank a B).bank b = if a = b then B else D.bank b := by
  cases a <;> cases b <;> rfl

@[simp] theorem Decoder.putBank_st (D : Decoder σ n cap) (b : Bool) (B : Bank cap) :
    (D.putBank b B).st = D.st := by
  cases b <;> rfl

@[simp] theorem Decoder.putBank_idx (D : Decoder σ n cap) (b : Bool) (B : Bank cap) :
    (D.putBank b B).idx = D.idx := by
  cases b <;> rfl

@[simp] theorem Decoder.putBank_exp (D : Decoder σ n cap) (b : Bool) (B : Bank cap) :
    (D.putBank b B).exp = D.exp := by
  cases b <;> rfl

@[simp] theorem Decoder.putBank_acc (D : Decoder σ n cap) (b : Bool) (B : Bank cap) :
    (D.putBank b B).acc = D.acc := by
  cases b <;> rfl

@[simp] theorem Decoder.putBank_buf (D : Decoder σ n cap) (b : Bool) (B : Bank cap) :
    (D.putBank b B).buf = D.buf := by
  cases b <;> rfl

@[simp] theorem Decoder.putBank_gap (D : Decoder σ n cap) (b : Bool) (B : Bank cap) :
    (D.putBank b B).gap = D.gap := by
  cases b <;> rfl

@[simp] theorem Decoder.putBank_act (D : Decoder σ n cap) (b : Bool) (B : Bank cap) :
    (D.putBank b B).act = D.act := by
  cases b <;> rfl

@[simp] theorem Decoder.putBank_valid (D : Decoder σ n cap) (b : Bool) (B : Bank cap) :
    (D.putBank b B).valid = D.valid := by
  cases b <;> rfl

@[simp] theorem Decoder.putBank_has (D : Decoder σ n cap) (b : Bool) (B : Bank cap) :
    (D.putBank b B).has = D.has := by
  cases b <;> rfl

@[simp] theorem Decoder.putBank_age (D : Decoder σ n cap) (b : Bool) (B : Bank cap) :
    (D.putBank b B).age = D.age := by
  cases b <;> rfl

@[simp] theorem Decoder.putBank_stamp (D : Decoder σ n cap) (b : Bool) (B : Bank cap) :
    (D.putBank b B).stamp = D.stamp := by
  cases b <;> rfl

@[simp] theorem Decoder.putBank_lastErr (D : Decoder σ n cap) (b : Bool) (B : Bank cap) :
    (D.putBank b B).lastErr = D.lastErr := by
  cases b <;> rfl

@[simp] theorem Decoder.putBank_frmErr (D : Decoder σ n cap) (b : Bool) (B : Bank cap) :
    (D.putBank b B).frmErr = D.frmErr := by
  cases b <;> rfl

@[simp] theorem Decoder.putBank_ckErr (D : Decoder σ n cap) (b : Bool) (B : Bank cap) :
    (D.putBank b B).ckErr = D.ckErr := by
  cases b <;> rfl

@[simp] theorem Decoder.putBank_frames (D : Decoder σ n cap) (b : Bool) (B : Bank cap) :
    (D.putBank b B).frames = D.frames := by
  cases b <;> rfl

/-- Elements of a vector into which a list was stored from `k` on. -/
theorem storeFrom_getElem? {α : Type} {m : Nat} (xs : List α) :
    ∀ (v : Vector α m) (k j : Nat), (storeFrom v k xs)[j]? =
      if k ≤ j ∧ j < k + xs.length ∧ j < m then xs[j - k]? else v[j]? := by
  induction xs with
  | nil => intro v k j; simp [storeFrom]; omega
  | cons x xs ih =>
    intro v k j
    rw [storeFrom, ih, Vector.getElem?_setIfInBounds]
    by_cases hkj : k = j
    · subst hkj
      by_cases hm : k < m
      · simp [hm]
      · simp [hm]
    · by_cases hlt : k < j
      · have h1 : j - k = (j - (k + 1)) + 1 := by omega
        by_cases hc : j < k + (xs.length + 1) ∧ j < m
        · have : k + 1 ≤ j ∧ j < k + 1 + xs.length ∧ j < m := by omega
          have h2 : k ≤ j ∧ j < k + (x :: xs).length ∧ j < m := by simp; omega
          rw [if_pos this, if_pos h2, h1, List.getElem?_cons_succ]
        · have : ¬ (k + 1 ≤ j ∧ j < k + 1 + xs.length ∧ j < m) := by omega
          have h2 : ¬ (k ≤ j ∧ j < k + (x :: xs).length ∧ j < m) := by simp; omega
          rw [if_neg this, if_neg h2, if_neg hkj]
      · have : ¬ (k + 1 ≤ j ∧ j < k + 1 + xs.length ∧ j < m) := by omega
        have h2 : ¬ (k ≤ j ∧ j < k + (x :: xs).length ∧ j < m) := by omega
        rw [if_neg this, if_neg h2, if_neg hkj]

/-- `VAL[k]` of a bank after a frame was loaded (R76). -/
theorem Bank.load_valueAt (B : Bank cap) (vals : List Half) (cls : List ChanClass) (fl : BitVec 4)
    (k : Nat) : (B.load vals cls fl).valueAt k =
      if k < vals.length ∧ k < cap then vals.getD k 0 else B.valueAt k := by
  unfold Bank.valueAt Bank.load
  simp only [storeFrom_getElem?]
  by_cases h : k < vals.length ∧ k < cap
  · simp [h]
  · rw [if_neg h, if_neg (by omega)]

/-- `CLS[k]` of a bank after a frame was loaded (R76). -/
theorem Bank.load_classAt (B : Bank cap) (vals : List Half) (cls : List ChanClass) (fl : BitVec 4)
    (k : Nat) : (B.load vals cls fl).classAt k =
      if k < cls.length ∧ k < cap then cls.getD k .out else B.classAt k := by
  unfold Bank.classAt Bank.load
  simp only [storeFrom_getElem?]
  by_cases h : k < cls.length ∧ k < cap
  · simp [h]
  · rw [if_neg h, if_neg (by omega)]

@[simp] theorem Bank.load_cnt (B : Bank cap) (vals : List Half) (cls : List ChanClass)
    (fl : BitVec 4) : (B.load vals cls fl).cnt = BitVec.ofNat 6 vals.length := rfl

@[simp] theorem Bank.load_fl (B : Bank cap) (vals : List Half) (cls : List ChanClass)
    (fl : BitVec 4) : (B.load vals cls fl).fl = fl := rfl

/-! ### Publish (R76) -/

@[simp] theorem publish_st (now : Word) (vals : List Half) (cls : List ChanClass) (fl : BitVec 4)
    (D : Decoder σ n cap) : (publish now vals cls fl D).st = D.st := by
  simp [publish]

@[simp] theorem publish_idx (now : Word) (vals : List Half) (cls : List ChanClass) (fl : BitVec 4)
    (D : Decoder σ n cap) : (publish now vals cls fl D).idx = D.idx := by
  simp [publish]

@[simp] theorem publish_exp (now : Word) (vals : List Half) (cls : List ChanClass) (fl : BitVec 4)
    (D : Decoder σ n cap) : (publish now vals cls fl D).exp = D.exp := by
  simp [publish]

@[simp] theorem publish_acc (now : Word) (vals : List Half) (cls : List ChanClass) (fl : BitVec 4)
    (D : Decoder σ n cap) : (publish now vals cls fl D).acc = D.acc := by
  simp [publish]

@[simp] theorem publish_buf (now : Word) (vals : List Half) (cls : List ChanClass) (fl : BitVec 4)
    (D : Decoder σ n cap) : (publish now vals cls fl D).buf = D.buf := by
  simp [publish]

@[simp] theorem publish_gap (now : Word) (vals : List Half) (cls : List ChanClass) (fl : BitVec 4)
    (D : Decoder σ n cap) : (publish now vals cls fl D).gap = D.gap := by
  simp [publish]

@[simp] theorem publish_act (now : Word) (vals : List Half) (cls : List ChanClass) (fl : BitVec 4)
    (D : Decoder σ n cap) : (publish now vals cls fl D).act = !D.act := rfl

@[simp] theorem publish_valid (now : Word) (vals : List Half) (cls : List ChanClass) (fl : BitVec 4)
    (D : Decoder σ n cap) : (publish now vals cls fl D).valid = true := rfl

@[simp] theorem publish_has (now : Word) (vals : List Half) (cls : List ChanClass) (fl : BitVec 4)
    (D : Decoder σ n cap) : (publish now vals cls fl D).has = true := rfl

@[simp] theorem publish_age (now : Word) (vals : List Half) (cls : List ChanClass) (fl : BitVec 4)
    (D : Decoder σ n cap) : (publish now vals cls fl D).age = 0 := rfl

@[simp] theorem publish_stamp (now : Word) (vals : List Half) (cls : List ChanClass) (fl : BitVec 4)
    (D : Decoder σ n cap) : (publish now vals cls fl D).stamp = now := rfl

@[simp] theorem publish_lastErr (now : Word) (vals : List Half) (cls : List ChanClass) (fl : BitVec 4)
    (D : Decoder σ n cap) : (publish now vals cls fl D).lastErr = D.lastErr := by
  simp [publish]

@[simp] theorem publish_frmErr (now : Word) (vals : List Half) (cls : List ChanClass) (fl : BitVec 4)
    (D : Decoder σ n cap) : (publish now vals cls fl D).frmErr = D.frmErr := by
  simp [publish]

@[simp] theorem publish_ckErr (now : Word) (vals : List Half) (cls : List ChanClass) (fl : BitVec 4)
    (D : Decoder σ n cap) : (publish now vals cls fl D).ckErr = D.ckErr := by
  simp [publish]

@[simp] theorem publish_frames (now : Word) (vals : List Half) (cls : List ChanClass) (fl : BitVec 4)
    (D : Decoder σ n cap) : (publish now vals cls fl D).frames = D.frames + 1 := rfl

/-- The bank Publish shows is the one that was inactive, loaded with the frame. -/
theorem publish_active (now : Word) (vals : List Half) (cls : List ChanClass) (fl : BitVec 4)
    (D : Decoder σ n cap) :
    (publish now vals cls fl D).active = (D.bank (!D.act)).load vals cls fl := by
  unfold Decoder.active publish
  cases h : D.act <;> simp [Decoder.bank, Decoder.putBank]

/-- The bank readers saw before a Publish is left as it was (R77). -/
theorem publish_old_bank (now : Word) (vals : List Half) (cls : List ChanClass) (fl : BitVec 4)
    (D : Decoder σ n cap) : (publish now vals cls fl D).bank D.act = D.active := by
  unfold Decoder.active publish
  cases h : D.act <;> simp [Decoder.bank, Decoder.putBank]

/-! ### `restart` -/

@[simp] theorem restart_st (P : Protocol σ) (D : Decoder σ n cap) :
    (restart P D).st = P.initial := rfl

@[simp] theorem restart_idx (P : Protocol σ) (D : Decoder σ n cap) :
    (restart P D).idx = 0 := rfl

@[simp] theorem restart_exp (P : Protocol σ) (D : Decoder σ n cap) :
    (restart P D).exp = 0 := rfl

@[simp] theorem restart_acc (P : Protocol σ) (D : Decoder σ n cap) :
    (restart P D).acc = D.acc := rfl

@[simp] theorem restart_buf (P : Protocol σ) (D : Decoder σ n cap) :
    (restart P D).buf = D.buf := rfl

@[simp] theorem restart_gap (P : Protocol σ) (D : Decoder σ n cap) :
    (restart P D).gap = 0 := rfl

@[simp] theorem restart_bank0 (P : Protocol σ) (D : Decoder σ n cap) :
    (restart P D).bank0 = D.bank0 := rfl

@[simp] theorem restart_bank1 (P : Protocol σ) (D : Decoder σ n cap) :
    (restart P D).bank1 = D.bank1 := rfl

@[simp] theorem restart_act (P : Protocol σ) (D : Decoder σ n cap) :
    (restart P D).act = D.act := rfl

@[simp] theorem restart_valid (P : Protocol σ) (D : Decoder σ n cap) :
    (restart P D).valid = D.valid := rfl

@[simp] theorem restart_has (P : Protocol σ) (D : Decoder σ n cap) :
    (restart P D).has = D.has := rfl

@[simp] theorem restart_age (P : Protocol σ) (D : Decoder σ n cap) :
    (restart P D).age = D.age := rfl

@[simp] theorem restart_stamp (P : Protocol σ) (D : Decoder σ n cap) :
    (restart P D).stamp = D.stamp := rfl

@[simp] theorem restart_lastErr (P : Protocol σ) (D : Decoder σ n cap) :
    (restart P D).lastErr = D.lastErr := rfl

@[simp] theorem restart_frmErr (P : Protocol σ) (D : Decoder σ n cap) :
    (restart P D).frmErr = D.frmErr := rfl

@[simp] theorem restart_ckErr (P : Protocol σ) (D : Decoder σ n cap) :
    (restart P D).ckErr = D.ckErr := rfl

@[simp] theorem restart_frames (P : Protocol σ) (D : Decoder σ n cap) :
    (restart P D).frames = D.frames := rfl

/-! ### `framingError` -/

@[simp] theorem framingError_st (P : Protocol σ) (D : Decoder σ n cap) :
    (framingError P D).st = P.initial := rfl

@[simp] theorem framingError_idx (P : Protocol σ) (D : Decoder σ n cap) :
    (framingError P D).idx = 0 := rfl

@[simp] theorem framingError_exp (P : Protocol σ) (D : Decoder σ n cap) :
    (framingError P D).exp = 0 := rfl

@[simp] theorem framingError_acc (P : Protocol σ) (D : Decoder σ n cap) :
    (framingError P D).acc = D.acc := rfl

@[simp] theorem framingError_buf (P : Protocol σ) (D : Decoder σ n cap) :
    (framingError P D).buf = D.buf := rfl

@[simp] theorem framingError_gap (P : Protocol σ) (D : Decoder σ n cap) :
    (framingError P D).gap = 0 := rfl

@[simp] theorem framingError_bank0 (P : Protocol σ) (D : Decoder σ n cap) :
    (framingError P D).bank0 = D.bank0 := rfl

@[simp] theorem framingError_bank1 (P : Protocol σ) (D : Decoder σ n cap) :
    (framingError P D).bank1 = D.bank1 := rfl

@[simp] theorem framingError_act (P : Protocol σ) (D : Decoder σ n cap) :
    (framingError P D).act = D.act := rfl

@[simp] theorem framingError_valid (P : Protocol σ) (D : Decoder σ n cap) :
    (framingError P D).valid = D.valid := rfl

@[simp] theorem framingError_has (P : Protocol σ) (D : Decoder σ n cap) :
    (framingError P D).has = D.has := rfl

@[simp] theorem framingError_age (P : Protocol σ) (D : Decoder σ n cap) :
    (framingError P D).age = D.age := rfl

@[simp] theorem framingError_stamp (P : Protocol σ) (D : Decoder σ n cap) :
    (framingError P D).stamp = D.stamp := rfl

@[simp] theorem framingError_lastErr (P : Protocol σ) (D : Decoder σ n cap) :
    (framingError P D).lastErr = .framing := rfl

@[simp] theorem framingError_frmErr (P : Protocol σ) (D : Decoder σ n cap) :
    (framingError P D).frmErr = D.frmErr + 1 := rfl

@[simp] theorem framingError_ckErr (P : Protocol σ) (D : Decoder σ n cap) :
    (framingError P D).ckErr = D.ckErr := rfl

@[simp] theorem framingError_frames (P : Protocol σ) (D : Decoder σ n cap) :
    (framingError P D).frames = D.frames := rfl

/-! ### `checksumError` -/

@[simp] theorem checksumError_st (P : Protocol σ) (D : Decoder σ n cap) :
    (checksumError P D).st = P.initial := rfl

@[simp] theorem checksumError_idx (P : Protocol σ) (D : Decoder σ n cap) :
    (checksumError P D).idx = 0 := rfl

@[simp] theorem checksumError_exp (P : Protocol σ) (D : Decoder σ n cap) :
    (checksumError P D).exp = 0 := rfl

@[simp] theorem checksumError_acc (P : Protocol σ) (D : Decoder σ n cap) :
    (checksumError P D).acc = D.acc := rfl

@[simp] theorem checksumError_buf (P : Protocol σ) (D : Decoder σ n cap) :
    (checksumError P D).buf = D.buf := rfl

@[simp] theorem checksumError_gap (P : Protocol σ) (D : Decoder σ n cap) :
    (checksumError P D).gap = 0 := rfl

@[simp] theorem checksumError_bank0 (P : Protocol σ) (D : Decoder σ n cap) :
    (checksumError P D).bank0 = D.bank0 := rfl

@[simp] theorem checksumError_bank1 (P : Protocol σ) (D : Decoder σ n cap) :
    (checksumError P D).bank1 = D.bank1 := rfl

@[simp] theorem checksumError_act (P : Protocol σ) (D : Decoder σ n cap) :
    (checksumError P D).act = D.act := rfl

@[simp] theorem checksumError_valid (P : Protocol σ) (D : Decoder σ n cap) :
    (checksumError P D).valid = D.valid := rfl

@[simp] theorem checksumError_has (P : Protocol σ) (D : Decoder σ n cap) :
    (checksumError P D).has = D.has := rfl

@[simp] theorem checksumError_age (P : Protocol σ) (D : Decoder σ n cap) :
    (checksumError P D).age = D.age := rfl

@[simp] theorem checksumError_stamp (P : Protocol σ) (D : Decoder σ n cap) :
    (checksumError P D).stamp = D.stamp := rfl

@[simp] theorem checksumError_lastErr (P : Protocol σ) (D : Decoder σ n cap) :
    (checksumError P D).lastErr = .checksum := rfl

@[simp] theorem checksumError_frmErr (P : Protocol σ) (D : Decoder σ n cap) :
    (checksumError P D).frmErr = D.frmErr := rfl

@[simp] theorem checksumError_ckErr (P : Protocol σ) (D : Decoder σ n cap) :
    (checksumError P D).ckErr = D.ckErr + 1 := rfl

@[simp] theorem checksumError_frames (P : Protocol σ) (D : Decoder σ n cap) :
    (checksumError P D).frames = D.frames := rfl

/-! ### `byteTimeout` -/

@[simp] theorem byteTimeout_st (P : Protocol σ) (D : Decoder σ n cap) :
    (byteTimeout P D).st = P.initial := rfl

@[simp] theorem byteTimeout_idx (P : Protocol σ) (D : Decoder σ n cap) :
    (byteTimeout P D).idx = 0 := rfl

@[simp] theorem byteTimeout_exp (P : Protocol σ) (D : Decoder σ n cap) :
    (byteTimeout P D).exp = 0 := rfl

@[simp] theorem byteTimeout_acc (P : Protocol σ) (D : Decoder σ n cap) :
    (byteTimeout P D).acc = D.acc := rfl

@[simp] theorem byteTimeout_buf (P : Protocol σ) (D : Decoder σ n cap) :
    (byteTimeout P D).buf = D.buf := rfl

@[simp] theorem byteTimeout_gap (P : Protocol σ) (D : Decoder σ n cap) :
    (byteTimeout P D).gap = 0 := rfl

@[simp] theorem byteTimeout_bank0 (P : Protocol σ) (D : Decoder σ n cap) :
    (byteTimeout P D).bank0 = D.bank0 := rfl

@[simp] theorem byteTimeout_bank1 (P : Protocol σ) (D : Decoder σ n cap) :
    (byteTimeout P D).bank1 = D.bank1 := rfl

@[simp] theorem byteTimeout_act (P : Protocol σ) (D : Decoder σ n cap) :
    (byteTimeout P D).act = D.act := rfl

@[simp] theorem byteTimeout_valid (P : Protocol σ) (D : Decoder σ n cap) :
    (byteTimeout P D).valid = D.valid := rfl

@[simp] theorem byteTimeout_has (P : Protocol σ) (D : Decoder σ n cap) :
    (byteTimeout P D).has = D.has := rfl

@[simp] theorem byteTimeout_age (P : Protocol σ) (D : Decoder σ n cap) :
    (byteTimeout P D).age = D.age := rfl

@[simp] theorem byteTimeout_stamp (P : Protocol σ) (D : Decoder σ n cap) :
    (byteTimeout P D).stamp = D.stamp := rfl

@[simp] theorem byteTimeout_lastErr (P : Protocol σ) (D : Decoder σ n cap) :
    (byteTimeout P D).lastErr = .byteTimeout := rfl

@[simp] theorem byteTimeout_frmErr (P : Protocol σ) (D : Decoder σ n cap) :
    (byteTimeout P D).frmErr = D.frmErr + 1 := rfl

@[simp] theorem byteTimeout_ckErr (P : Protocol σ) (D : Decoder σ n cap) :
    (byteTimeout P D).ckErr = D.ckErr := rfl

@[simp] theorem byteTimeout_frames (P : Protocol σ) (D : Decoder σ n cap) :
    (byteTimeout P D).frames = D.frames := rfl

/-! ### `staleData` -/

@[simp] theorem staleData_st (D : Decoder σ n cap) :
    (staleData D).st = D.st := rfl

@[simp] theorem staleData_idx (D : Decoder σ n cap) :
    (staleData D).idx = D.idx := rfl

@[simp] theorem staleData_exp (D : Decoder σ n cap) :
    (staleData D).exp = D.exp := rfl

@[simp] theorem staleData_acc (D : Decoder σ n cap) :
    (staleData D).acc = D.acc := rfl

@[simp] theorem staleData_buf (D : Decoder σ n cap) :
    (staleData D).buf = D.buf := rfl

@[simp] theorem staleData_gap (D : Decoder σ n cap) :
    (staleData D).gap = D.gap := rfl

@[simp] theorem staleData_bank0 (D : Decoder σ n cap) :
    (staleData D).bank0 = D.bank0 := rfl

@[simp] theorem staleData_bank1 (D : Decoder σ n cap) :
    (staleData D).bank1 = D.bank1 := rfl

@[simp] theorem staleData_act (D : Decoder σ n cap) :
    (staleData D).act = D.act := rfl

@[simp] theorem staleData_valid (D : Decoder σ n cap) :
    (staleData D).valid = false := rfl

@[simp] theorem staleData_has (D : Decoder σ n cap) :
    (staleData D).has = D.has := rfl

@[simp] theorem staleData_age (D : Decoder σ n cap) :
    (staleData D).age = D.age := rfl

@[simp] theorem staleData_stamp (D : Decoder σ n cap) :
    (staleData D).stamp = D.stamp := rfl

@[simp] theorem staleData_lastErr (D : Decoder σ n cap) :
    (staleData D).lastErr = .stale := rfl

@[simp] theorem staleData_frmErr (D : Decoder σ n cap) :
    (staleData D).frmErr = D.frmErr := rfl

@[simp] theorem staleData_ckErr (D : Decoder σ n cap) :
    (staleData D).ckErr = D.ckErr := rfl

@[simp] theorem staleData_frames (D : Decoder σ n cap) :
    (staleData D).frames = D.frames := rfl

/-! ### `D.GAP ← 0` -/

@[simp] theorem Decoder.clearGap_st (D : Decoder σ n cap) : D.clearGap.st = D.st := rfl

@[simp] theorem Decoder.clearGap_idx (D : Decoder σ n cap) : D.clearGap.idx = D.idx := rfl

@[simp] theorem Decoder.clearGap_exp (D : Decoder σ n cap) : D.clearGap.exp = D.exp := rfl

@[simp] theorem Decoder.clearGap_acc (D : Decoder σ n cap) : D.clearGap.acc = D.acc := rfl

@[simp] theorem Decoder.clearGap_buf (D : Decoder σ n cap) : D.clearGap.buf = D.buf := rfl

@[simp] theorem Decoder.clearGap_gap (D : Decoder σ n cap) : D.clearGap.gap = 0 := rfl

@[simp] theorem Decoder.clearGap_bank0 (D : Decoder σ n cap) : D.clearGap.bank0 = D.bank0 := rfl

@[simp] theorem Decoder.clearGap_bank1 (D : Decoder σ n cap) : D.clearGap.bank1 = D.bank1 := rfl

@[simp] theorem Decoder.clearGap_act (D : Decoder σ n cap) : D.clearGap.act = D.act := rfl

@[simp] theorem Decoder.clearGap_valid (D : Decoder σ n cap) : D.clearGap.valid = D.valid := rfl

@[simp] theorem Decoder.clearGap_has (D : Decoder σ n cap) : D.clearGap.has = D.has := rfl

@[simp] theorem Decoder.clearGap_age (D : Decoder σ n cap) : D.clearGap.age = D.age := rfl

@[simp] theorem Decoder.clearGap_stamp (D : Decoder σ n cap) : D.clearGap.stamp = D.stamp := rfl

@[simp] theorem Decoder.clearGap_lastErr (D : Decoder σ n cap) : D.clearGap.lastErr = D.lastErr := rfl

@[simp] theorem Decoder.clearGap_frmErr (D : Decoder σ n cap) : D.clearGap.frmErr = D.frmErr := rfl

@[simp] theorem Decoder.clearGap_ckErr (D : Decoder σ n cap) : D.clearGap.ckErr = D.ckErr := rfl

@[simp] theorem Decoder.clearGap_frames (D : Decoder σ n cap) : D.clearGap.frames = D.frames := rfl

@[simp] theorem Decoder.clearGap_byte (D : Decoder σ n cap) (i : Nat) : D.clearGap.byte i = D.byte i := rfl

/-! ### The timer steps: everything one can do -/

/-- GapStep (R402): an idle decoder's gap is cleared, a disabled timer does nothing, the timer fires,
or it counts. -/
theorem gapStep_cases (P : Protocol σ) (p : Params) (D : Decoder σ n cap) :
    (P.isIdle D.st = true ∧ gapStep P p D = D.clearGap) ∨
    (P.isIdle D.st = false ∧ P.tByte p = 0 ∧ gapStep P p D = D) ∨
    (P.isIdle D.st = false ∧ P.tByte p ≠ 0 ∧ D.gap + 1 = P.tByte p ∧
      gapStep P p D = byteTimeout P D) ∨
    (P.isIdle D.st = false ∧ P.tByte p ≠ 0 ∧ D.gap + 1 ≠ P.tByte p ∧
      gapStep P p D = { D with gap := D.gap + 1 }) := by
  unfold gapStep
  cases hi : P.isIdle D.st
  · by_cases ht : P.tByte p = 0
    · exact .inr (.inl ⟨rfl, ht, by rw [if_neg (by decide), if_pos ht]⟩)
    · by_cases hg : D.gap + 1 = P.tByte p
      · exact .inr (.inr (.inl ⟨rfl, ht, hg, by rw [if_neg (by decide), if_neg ht, if_pos hg]; rfl⟩))
      · exact .inr (.inr (.inr ⟨rfl, ht, hg, by rw [if_neg (by decide), if_neg ht, if_neg hg]⟩))
  · exact .inl ⟨rfl, if_pos rfl⟩

/-- StaleStep (R403): an invalid frame or a disabled timer is left alone, the timer fires, or it
counts. -/
theorem staleStep_cases (P : Protocol σ) (p : Params) (D : Decoder σ n cap) :
    ((D.valid = false ∨ P.tStale p = 0) ∧ staleStep P p D = D) ∨
    (D.valid = true ∧ P.tStale p ≠ 0 ∧ D.age + 1 = P.tStale p ∧
      staleStep P p D = staleData { D with age := D.age + 1 }) ∨
    (D.valid = true ∧ P.tStale p ≠ 0 ∧ D.age + 1 ≠ P.tStale p ∧
      staleStep P p D = { D with age := D.age + 1 }) := by
  unfold staleStep
  by_cases h : D.valid = false ∨ P.tStale p = 0
  · exact .inl ⟨h, by simp only [if_pos h]⟩
  · have hv : D.valid = true := by cases hd : D.valid <;> simp_all
    have ht : P.tStale p ≠ 0 := fun e => h (.inr e)
    by_cases ha : D.age + 1 = P.tStale p
    · exact .inr (.inl ⟨hv, ht, ha, by simp only [if_neg h, if_pos ha]⟩)
    · exact .inr (.inr ⟨hv, ht, ha, by simp only [if_neg h, if_neg ha]⟩)

end

end Sys2Proof.Machine
end

