-- ==== Sys2Proof/Laws/PerInstr.lean ====
section
/-! SUPPORT. Statements for all instructions, made per instruction. `EncodedFields`: the fields of the
word a command is encoded as are its row's of R101 (R100). -/

namespace Sys2Proof.Laws

/-- The columns `OP`, `DEC` and `DATA` of the opcode map (R101). -/
def EncodedFields.columns : Instr → BitVec 4 × BitVec 2 × Byte
  | .nop => (0x0, 0, 0)
  | .rxSbus b => (0x1, 0, b)
  | .rxIbus b => (0x1, 1, b)
  | .rxCrsf b => (0x1, 2, b)
  | .rxSumd b => (0x1, 3, b)
  | .tick => (0x2, 0, 0)
  | .rdSbus a => (0x3, 0, a)
  | .rdIbus a => (0x3, 1, a)
  | .rdCrsf a => (0x3, 2, a)
  | .rdSumd a => (0x3, 3, a)
  | .crc8Init => (0x4, 0, 0)
  | .crc8Feed b => (0x5, 0, b)
  | .crc8Rd => (0x6, 0, 0)
  | .rdTime => (0x7, 0, 0)
  | .abortSbus => (0x8, 0, 0)
  | .abortIbus => (0x8, 1, 0)
  | .abortCrsf => (0x8, 2, 0)
  | .abortSumd => (0x8, 3, 0)
  | .reset => (0xF, 0, 0)

/-- The word of a command shows its row's columns in the fields of R100, and `Z` is 00. -/
def EncodedFields.Statement (i : Instr) : Prop :=
  CmdWord.op (encode i) = (EncodedFields.columns i).1 ∧
  CmdWord.dec (encode i) = (EncodedFields.columns i).2.1 ∧
  CmdWord.z (encode i) = 0 ∧ CmdWord.data (encode i) = (EncodedFields.columns i).2.2

/-- The fields of a word put together from its fields (R100). -/
theorem EncodedFields.of_cmdWord (op : BitVec 4) (dec : BitVec 2) (data : Byte) :
    CmdWord.op (cmdWord op dec data) = op ∧ CmdWord.dec (cmdWord op dec data) = dec ∧
    CmdWord.z (cmdWord op dec data) = 0 ∧ CmdWord.data (cmdWord op dec data) = data := by
  refine ⟨(extractLsb'_eq_iff _ _ _).2 ?_, (extractLsb'_eq_iff _ _ _).2 ?_,
    (extractLsb'_eq_iff _ _ _).2 ?_, (extractLsb'_eq_iff _ _ _).2 ?_⟩ <;>
    intro i hi <;> interval_cases i <;> simp [cmdWord]

theorem EncodedFields.nop : EncodedFields.Statement .nop :=
  EncodedFields.of_cmdWord 0x0 0 0

theorem EncodedFields.rxSbus (b : Byte) : EncodedFields.Statement (.rxSbus b) :=
  EncodedFields.of_cmdWord 0x1 0 b

theorem EncodedFields.rxIbus (b : Byte) : EncodedFields.Statement (.rxIbus b) :=
  EncodedFields.of_cmdWord 0x1 1 b

theorem EncodedFields.rxCrsf (b : Byte) : EncodedFields.Statement (.rxCrsf b) :=
  EncodedFields.of_cmdWord 0x1 2 b

theorem EncodedFields.rxSumd (b : Byte) : EncodedFields.Statement (.rxSumd b) :=
  EncodedFields.of_cmdWord 0x1 3 b

theorem EncodedFields.tick : EncodedFields.Statement .tick :=
  EncodedFields.of_cmdWord 0x2 0 0

theorem EncodedFields.rdSbus (a : Byte) : EncodedFields.Statement (.rdSbus a) :=
  EncodedFields.of_cmdWord 0x3 0 a

theorem EncodedFields.rdIbus (a : Byte) : EncodedFields.Statement (.rdIbus a) :=
  EncodedFields.of_cmdWord 0x3 1 a

theorem EncodedFields.rdCrsf (a : Byte) : EncodedFields.Statement (.rdCrsf a) :=
  EncodedFields.of_cmdWord 0x3 2 a

theorem EncodedFields.rdSumd (a : Byte) : EncodedFields.Statement (.rdSumd a) :=
  EncodedFields.of_cmdWord 0x3 3 a

theorem EncodedFields.crc8Init : EncodedFields.Statement .crc8Init :=
  EncodedFields.of_cmdWord 0x4 0 0

theorem EncodedFields.crc8Feed (b : Byte) : EncodedFields.Statement (.crc8Feed b) :=
  EncodedFields.of_cmdWord 0x5 0 b

theorem EncodedFields.crc8Rd : EncodedFields.Statement .crc8Rd :=
  EncodedFields.of_cmdWord 0x6 0 0

theorem EncodedFields.rdTime : EncodedFields.Statement .rdTime :=
  EncodedFields.of_cmdWord 0x7 0 0

theorem EncodedFields.abortSbus : EncodedFields.Statement .abortSbus :=
  EncodedFields.of_cmdWord 0x8 0 0

theorem EncodedFields.abortIbus : EncodedFields.Statement .abortIbus :=
  EncodedFields.of_cmdWord 0x8 1 0

theorem EncodedFields.abortCrsf : EncodedFields.Statement .abortCrsf :=
  EncodedFields.of_cmdWord 0x8 2 0

theorem EncodedFields.abortSumd : EncodedFields.Statement .abortSumd :=
  EncodedFields.of_cmdWord 0x8 3 0

theorem EncodedFields.reset : EncodedFields.Statement .reset :=
  EncodedFields.of_cmdWord 0xF 0 0

end Sys2Proof.Laws
end

