-- ==== Sys2Proof/Laws/Reads.lean ====
section
/-! SUPPORT. Everything the read map can answer (R42, R72), and that its reserved addresses are those
of `Instr.wellFormed`. -/

namespace Sys2Proof.Machine

section
variable {σ : Type} {n cap : Nat}

/-- The answers of the read map common to all decoders, by address (R42). -/
theorem readCommon_cases (P : Protocol σ) (D : Decoder σ n cap) (a : Byte) :
    (a.toNat ≤ 0x1F ∧ readCommon P D a = some (chanWord D a.toNat)) ∨
    (a = 0x20 ∧ readCommon P D a = some (statusWord P D)) ∨
    (a = 0x21 ∧ readCommon P D a = some D.stamp) ∨
    (a = 0x22 ∧ readCommon P D a = some (countsWord D)) ∨
    (a = 0x23 ∧ readCommon P D a = some (fsmdbgWord D)) ∨
    (a = 0x24 ∧ readCommon P D a = some (D.age.setWidth 32)) ∨
    (0x24 < a.toNat ∧ readCommon P D a = none) := by
  unfold readCommon
  by_cases h0 : a.toNat ≤ 0x1F
  · exact .inl ⟨h0, if_pos h0⟩
  rw [if_neg h0]
  by_cases h1 : a = 0x20
  · exact .inr (.inl ⟨h1, if_pos h1⟩)
  rw [if_neg h1]
  by_cases h2 : a = 0x21
  · exact .inr (.inr (.inl ⟨h2, if_pos h2⟩))
  rw [if_neg h2]
  by_cases h3 : a = 0x22
  · exact .inr (.inr (.inr (.inl ⟨h3, if_pos h3⟩)))
  rw [if_neg h3]
  by_cases h4 : a = 0x23
  · exact .inr (.inr (.inr (.inr (.inl ⟨h4, if_pos h4⟩))))
  rw [if_neg h4]
  by_cases h5 : a = 0x24
  · exact .inr (.inr (.inr (.inr (.inr (.inl ⟨h5, if_pos h5⟩)))))
  refine .inr (.inr (.inr (.inr (.inr (.inr ⟨?_, if_neg h5⟩)))))
  bv_omega

/-- The answers of the CRSF read map, by address (R42, R49, R50). -/
theorem readCrsf_cases (D : CrsfDecoder) (m : Mirror) (a : Byte) :
    (a = 0x25 ∧ readCrsf D m a = some (lastFrameWord m)) ∨
    (0x40 ≤ a.toNat ∧ a.toNat ≤ 0x7F ∧
      readCrsf D m a = some ((m.xbuf[a.toNat - 0x40]?.getD 0).setWidth 32)) ∨
    (a ≠ 0x25 ∧ ¬ (0x40 ≤ a.toNat ∧ a.toNat ≤ 0x7F) ∧
      readCrsf D m a = readCommon crsfProtocol D a) := by
  unfold readCrsf
  by_cases h0 : a = 0x25
  · exact .inl ⟨h0, if_pos h0⟩
  rw [if_neg h0]
  by_cases h1 : 0x40 ≤ a.toNat ∧ a.toNat ≤ 0x7F
  · exact .inr (.inl ⟨h1.1, h1.2, if_pos h1⟩)
  · exact .inr (.inr ⟨h0, h1, if_neg h1⟩)

/-- The common map answers exactly the addresses that are not reserved for every decoder (R42). -/
theorem readCommon_isSome (P : Protocol σ) (D : Decoder σ n cap) (a : Byte) :
    (readCommon P D a).isSome = commonAddress a := by
  have hc : commonAddress a = decide (a.toNat ≤ 0x24) := rfl
  rw [hc]
  rcases readCommon_cases P D a with ⟨h, e⟩ | ⟨h, e⟩ | ⟨h, e⟩ | ⟨h, e⟩ | ⟨h, e⟩ | ⟨h, e⟩ | ⟨h, e⟩ <;>
    rw [e]
  · simp; omega
  all_goals first | (subst h; rfl) | (simp; omega)

/-- The CRSF map answers exactly the addresses that are not reserved for CRSF (R42). -/
theorem readCrsf_isSome (D : CrsfDecoder) (m : Mirror) (a : Byte) :
    (readCrsf D m a).isSome = (commonAddress a || crsfAddress a) := by
  have hx : crsfAddress a = (decide (a.toNat = 0x25) || (0x40 ≤ a.toNat && a.toNat ≤ 0x7F)) := rfl
  rcases readCrsf_cases D m a with ⟨h, e⟩ | ⟨h, h', e⟩ | ⟨h, h', e⟩ <;> rw [e]
  · subst h; rfl
  · simp [hx, h, h']
  · have h25 : a.toNat ≠ 0x25 := fun hn => h (BitVec.eq_of_toNat_eq hn)
    rw [readCommon_isSome, hx]
    simp [h25]
    intro h1 h2
    omega

end

end Sys2Proof.Machine
end

