-- ==== Sys2Proof/Laws/Receive.lean ====
section
/-! SUPPORT. Everything the receiving of a byte can do, once per decoder: in which state, on which
condition, which named operation gives the decoder, and which response bits. -/

namespace Sys2Proof.Machine

/-- Everything `RX.SBUS` can do to its decoder (R204). -/
theorem sbusReceive_cases (p : Params) (now : Word) (b : Byte) (D : SbusDecoder) :
    ((D.st = .undefined ∨ D.st = .gotEnd) ∧
      sbusReceive p now b D = .quiet (sbusHunt p b D.clearGap)) ∨
    (D.st = .data ∧ sbusReceive p now b D = .quiet (sbusPayload b D.clearGap)) ∨
    (D.st = .waitEnd ∧ b = p.sbusEnd ∧
      sbusReceive p now b D = .published (sbusPublish p now D.clearGap)) ∨
    (D.st = .waitEnd ∧ b ≠ p.sbusEnd ∧
      sbusReceive p now b D = .quiet (framingError sbusProtocol D.clearGap)) := by
  unfold sbusReceive
  cases hst : D.st
  · exact .inl ⟨.inl rfl, rfl⟩
  · exact .inr (.inl ⟨rfl, rfl⟩)
  · by_cases hb : b = p.sbusEnd
    · exact .inr (.inr (.inl ⟨rfl, hb, if_pos hb⟩))
    · exact .inr (.inr (.inr ⟨rfl, hb, if_neg hb⟩))
  · exact .inl ⟨.inr rfl, rfl⟩

/-- Everything `RX.IBUS` can do to its decoder (R243). -/
theorem ibusReceive_cases (p : Params) (now : Word) (b : Byte) (D : IbusDecoder) :
    (D.st = .idle ∧ ibusReceive p now b D = .quiet (ibusHunt p b D.clearGap)) ∨
    (D.st = .hdr ∧ ibusReceive p now b D = .quiet (ibusHeader p b D.clearGap)) ∨
    (D.st = .data ∧ D.idx + 1 ≠ 32 ∧
      ibusReceive p now b D = .quiet (ibusStore b D.clearGap)) ∨
    (D.st = .data ∧ D.idx + 1 = 32 ∧ ibusValid (ibusStore b D.clearGap) = true ∧
      ibusReceive p now b D = .published (ibusPublish p now (ibusStore b D.clearGap))) ∨
    (D.st = .data ∧ D.idx + 1 = 32 ∧ ibusValid (ibusStore b D.clearGap) = false ∧
      ibusReceive p now b D =
        .quiet (checksumError ibusProtocol (ibusStore b D.clearGap))) := by
  have hidx : (ibusStore b D.clearGap).idx = D.idx + 1 := rfl
  unfold ibusReceive
  cases hst : D.st
  · exact .inl ⟨rfl, rfl⟩
  · exact .inr (.inl ⟨rfl, rfl⟩)
  · simp only [ibusJudge, hidx]
    by_cases hi : D.idx + 1 = 32
    · cases hv : ibusValid (ibusStore b D.clearGap)
      · exact .inr (.inr (.inr (.inr ⟨trivial, hi, rfl, by simp only [if_pos hi]; rfl⟩)))
      · exact .inr (.inr (.inr (.inl ⟨trivial, hi, rfl, by simp only [if_pos hi]; rfl⟩)))
    · exact .inr (.inr (.inl ⟨trivial, hi, by simp only [if_neg hi]⟩))

/-- Everything `RX.CRSF` can do to its decoder and mirror (R284): `E` is the decoder with the byte
stored, `F` the same back in `Sync`. -/
theorem crsfReceive_cases (p : Params) (now : Word) (b : Byte) (D : CrsfDecoder) (m : Mirror) :
    (D.st = .sync ∧
      crsfReceive p now b D m = .quiet ⟨crsfHunt p b D.clearGap, m⟩) ∨
    (D.st = .len ∧
      crsfReceive p now b D m = .quiet ⟨crsfLength p b D.clearGap, m⟩) ∨
    (D.st = .data ∧ D.idx + 1 ≠ D.exp ∧
      crsfReceive p now b D m = .quiet ⟨crsfStore p b D.clearGap, m⟩) ∨
    (D.st = .data ∧ D.idx + 1 = D.exp ∧
      ∃ E F : CrsfDecoder, E = crsfStore p b D.clearGap ∧
        F = { E with st := .sync, idx := 0, exp := 0 } ∧
        ((lowByte E.acc ≠ b ∧ crsfReceive p now b D m = .quiet ⟨checksumError crsfProtocol E, m⟩) ∨
         (lowByte E.acc = b ∧ F.byte 2 = p.crsfTypeRc ∧ D.exp = 24 ∧
            crsfReceive p now b D m = .published ⟨crsfPublish p now F, mirrorOf p E⟩) ∨
         (lowByte E.acc = b ∧ F.byte 2 = p.crsfTypeRc ∧ D.exp ≠ 24 ∧
            crsfReceive p now b D m = .frameOnly ⟨framingError crsfProtocol F, mirrorOf p E⟩) ∨
         (lowByte E.acc = b ∧ F.byte 2 ≠ p.crsfTypeRc ∧
            crsfReceive p now b D m = .frameOnly ⟨F, mirrorOf p E⟩))) := by
  have hidx : (crsfStore p b D.clearGap).idx = D.idx + 1 := rfl
  have hexp : (crsfStore p b D.clearGap).exp = D.exp := rfl
  unfold crsfReceive
  cases hst : D.st
  · exact .inl ⟨rfl, rfl⟩
  · exact .inr (.inl ⟨rfl, rfl⟩)
  · simp only [crsfJudge, hidx, hexp]
    by_cases hi : D.idx + 1 = D.exp
    · refine .inr (.inr (.inr ⟨trivial, hi, _, _, rfl, rfl, ?_⟩))
      simp only [if_pos hi]
      by_cases hc : lowByte (crsfStore p b D.clearGap).acc = b
      · simp only [if_pos hc, crsfDeliver]
        by_cases ht : ({ crsfStore p b D.clearGap with
            st := CrsfState.sync, idx := 0, exp := 0 } : CrsfDecoder).byte 2 = p.crsfTypeRc
        · by_cases hl : D.exp = 24
          · exact .inr (.inl ⟨hc, ht, hl, by rw [if_pos ht, if_pos hl]; rfl⟩)
          · exact .inr (.inr (.inl ⟨hc, ht, hl, by rw [if_pos ht, if_neg hl]; rfl⟩))
        · exact .inr (.inr (.inr ⟨hc, ht, by rw [if_neg ht]; rfl⟩))
      · exact .inl ⟨hc, by simp only [if_neg hc]⟩
    · exact .inr (.inr (.inl ⟨trivial, hi, by simp only [if_neg hi]⟩))

/-- Everything `RX.SUMD` can do to its decoder (R333). -/
theorem sumdReceive_cases (p : Params) (now : Word) (b : Byte) (D : SumdDecoder) :
    (D.st = .sync ∧ sumdReceive p now b D = .quiet (sumdHunt p b D.clearGap)) ∨
    (D.st = .status ∧ sumdReceive p now b D = .quiet (sumdStatus p b D.clearGap)) ∨
    (D.st = .count ∧ sumdReceive p now b D = .quiet (sumdCount p b D.clearGap)) ∨
    (D.st = .data ∧ ∃ E : SumdDecoder, E = sumdStore p b D.clearGap ∧
      ((E.idx.toNat ≠ 2 * D.exp.toNat + 2 ∧ sumdReceive p now b D = .quiet E) ∨
       (E.idx.toNat = 2 * D.exp.toNat + 2 ∧ sumdValid D.exp.toNat E = true ∧
          sumdReceive p now b D = .published (sumdPublish p now D.exp.toNat E)) ∨
       (E.idx.toNat = 2 * D.exp.toNat + 2 ∧ sumdValid D.exp.toNat E = false ∧
          sumdReceive p now b D = .quiet (checksumError sumdProtocol E)))) := by
  have hexp : (sumdStore p b D.clearGap).exp = D.exp := rfl
  unfold sumdReceive
  cases hst : D.st
  · exact .inl ⟨rfl, rfl⟩
  · exact .inr (.inl ⟨rfl, rfl⟩)
  · exact .inr (.inr (.inl ⟨rfl, rfl⟩))
  · refine .inr (.inr (.inr ⟨rfl, _, rfl, ?_⟩))
    simp only [sumdJudge, hexp]
    by_cases hi : (sumdStore p b D.clearGap).idx.toNat = 2 * D.exp.toNat + 2
    · cases hv : sumdValid D.exp.toNat (sumdStore p b D.clearGap)
      · exact .inr (.inr ⟨hi, rfl, by simp only [if_pos hi]; rfl⟩)
      · exact .inr (.inl ⟨hi, rfl, by simp only [if_pos hi]; rfl⟩)
    · exact .inl ⟨hi, by simp only [if_neg hi]⟩

/-- The response of an RX command that completed no frame (R105). -/
@[simp] theorem Received.resp_quiet {α : Type} (D : α) : (Received.quiet D).resp = respOk 0 := by
  simp [Received.quiet, Received.resp, rxValue, place]

/-- The response of an RX command that published (R105). -/
@[simp] theorem Received.resp_published {α : Type} (D : α) :
    (Received.published D).resp = respOk 3 := by
  simp [Received.published, Received.resp, rxValue, place]

/-- The response of an RX command that completed a frame it did not publish (R105). -/
@[simp] theorem Received.resp_frameOnly {α : Type} (D : α) :
    (Received.frameOnly D).resp = respOk 1 := by
  simp [Received.frameOnly, Received.resp, rxValue, place]

@[simp] theorem Received.quiet_decoder {α : Type} (D : α) : (Received.quiet D).decoder = D := rfl

@[simp] theorem Received.published_decoder {α : Type} (D : α) :
    (Received.published D).decoder = D := rfl

@[simp] theorem Received.frameOnly_decoder {α : Type} (D : α) :
    (Received.frameOnly D).decoder = D := rfl

end Sys2Proof.Machine
end

