-- ==== Sys2Proof/Tests/Slice0.lean ====
section
/-! SUPPORT. Own tests: the checks of WellFormed on ill-formed terms, the decoding of words written out
from R100 and R101, one-step tests whose expected values are those of spec/95_test_vectors.md, and a
witness for the hypotheses of every obligation that has some. -/

namespace Sys2Proof.Tests

open Sys2Proof.Machine

/-! ### Small states -/

/-- An instance with both timeouts 2 TICKs, the one of V-TM4. -/
def params : Params := { tickPeriodNs := 1000000, tByteSbus := 2, tStaleSbus := 2 }

/-- That instance right after reset. -/
def boot : State := State.resetWith params

/-- The state after a command. -/
def after (i : Instr) (s : State) : State :=
  match exec i s with
  | .next t => t
  | _ => s

/-- The response to a command. -/
def answer (i : Instr) (s : State) : Response := (after i s).resp

/-- A buffer that begins with some bytes. -/
def bufOf (n : Nat) (bytes : List Byte) : Vector Byte n := Vector.ofFn fun i => bytes.getD i.val 0

/-- A bank showing `n` channels of one value, all in range. -/
def bankOf (cap : Nat) (v : Half) (n : BitVec 6) : Bank cap :=
  { val := Vector.replicate cap v, cls := Vector.replicate cap .inRange, cnt := n, fl := 0 }

/-- The SBus decoder before the end byte of V-SB2: channels 172 + 100k, flags byte 0x0F. -/
def sbusFull : State :=
  { boot with sbus := { boot.sbus with
      st := .waitEnd, idx := 23
      buf := bufOf 23 [0xAC, 0x80, 0x08, 0x5D, 0xB0, 0xC3, 0x23, 0x50, 0x11, 0x0C, 0x6D, 0xCC, 0x83,
        0x21, 0x25, 0xF1, 0xC9, 0x55, 0xE0, 0x92, 0x18, 0xD1, 0x0F] } }

/-- The bytes of V-IB1 before its last: 14 channels of 1500, and the low checksum byte. -/
def ibusBytes : List Byte :=
  [0x20, 0x40, 0xDC, 0x05, 0xDC, 0x05, 0xDC, 0x05, 0xDC, 0x05, 0xDC, 0x05, 0xDC, 0x05, 0xDC, 0x05,
   0xDC, 0x05, 0xDC, 0x05, 0xDC, 0x05, 0xDC, 0x05, 0xDC, 0x05, 0xDC, 0x05, 0xDC, 0x05, 0x51]

/-- The IBus decoder before the last byte of V-IB1; its sum is S2's 0xF351. -/
def ibusFull : State :=
  { boot with ibus := { boot.ibus with
      st := .data, idx := 31, acc := 0xF351, buf := bufOf 32 ibusBytes } }

/-- The CRSF decoder before the CRC byte of V-CR4: type 0x28, payload EE EA. -/
def crsfFull : State :=
  { boot with crsf := { boot.crsf with
      st := .data, idx := 3, exp := 4, acc := 0x97, buf := bufOf 64 [0xC8, 0x04, 0x28, 0xEE, 0xEA] } }

/-- The CRSF decoder before the CRC byte of V-CR1: 16 channels of 992. -/
def crsfRcFull : State :=
  { boot with crsf := { boot.crsf with
      st := .data, idx := 23, exp := 24, acc := 0xAD
      buf := bufOf 64 [0xC8, 0x18, 0x16, 0xE0, 0x03, 0x1F, 0xF8, 0xC0, 0x07, 0x3E, 0xF0, 0x81, 0x0F,
        0x7C, 0xE0, 0x03, 0x1F, 0xF8, 0xC0, 0x07, 0x3E, 0xF0, 0x81, 0x0F, 0x7C] } }

/-- The SumD decoder before the last byte of V-SD2: the four thresholds, failsafe. -/
def sumdFull : State :=
  { boot with sumd := { boot.sumd with
      st := .data, idx := 9, exp := 4, acc := 0x7DA2
      buf := bufOf 69 [0xA8, 0x81, 0x04, 0x22, 0x60, 0x3B, 0x60, 0x1C, 0x20, 0x41, 0xA0, 0x7D] } }

/-- Every decoder has just received the first byte of a frame. -/
def partial4 : State :=
  { boot with
    sbus := { boot.sbus with st := .data }
    ibus := { boot.ibus with st := .hdr, idx := 1, acc := 0xFFDF, buf := bufOf 32 [0x20] }
    crsf := { boot.crsf with st := .len, buf := bufOf 64 [0xC8] }
    sumd := { boot.sumd with st := .status, acc := 0x34E2, buf := bufOf 69 [0xA8] } }

/-- Every decoder has just published: 16 channels of 992, 18 of 1500, 16 of 992, 32 of 0x2EE0. -/
def published4 : State :=
  { boot with
    sbus := { boot.sbus with
      st := .gotEnd, bank1 := bankOf 16 992 16, act := true, valid := true, has := true, frames := 1 }
    ibus := { boot.ibus with
      bank1 := bankOf 18 1500 18, act := true, valid := true, has := true, frames := 1 }
    crsf := { boot.crsf with
      bank1 := bankOf 16 992 16, act := true, valid := true, has := true, frames := 1 }
    sumd := { boot.sumd with
      bank1 := bankOf 32 0x2EE0 32, act := true, valid := true, has := true, frames := 1 } }

/-- A bank whose first channels have these values and classes, the others 992 in range. -/
def bankWith (cap : Nat) (vals : List Half) (cls : List ChanClass) (n : BitVec 6) : Bank cap :=
  { val := Vector.ofFn fun i => vals.getD i.val 992
    cls := Vector.ofFn fun i => cls.getD i.val .inRange, cnt := n, fl := 0 }

/-- Every decoder has just published values on both sides of each limit of its range, with the classes
R202, R247, R289 and R335 give them (V-SB5, V-SD2, V-SD3). -/
def edges4 : State :=
  { published4 with
    sbus := { published4.sbus with
      bank1 := bankWith 16 [171, 172, 1811, 1812] [.out, .inRange, .inRange, .out] 16 }
    ibus := { published4.ibus with bank1 := bankWith 18 [0, 0xFFFF] [] 18 }
    crsf := { published4.crsf with
      bank1 := bankWith 16 [171, 172, 1811, 1812] [.out, .inRange, .inRange, .out] 16 }
    sumd := { published4.sumd with
      bank1 := bankWith 32 [0x1C1F, 0x1C20, 0x225F, 0x2260, 0x3B60, 0x3B61, 0x41A0, 0x41A1]
        [.out, .extLow, .extLow, .inRange, .inRange, .extHigh, .extHigh, .out] 8 } }

/-- Partial frames of every decoder, one TICK before their timeouts. -/
def late4 : State :=
  { partial4 with
    sbus := { partial4.sbus with gap := 1 }
    ibus := { partial4.ibus with gap := 1 }
    crsf := { partial4.crsf with gap := 1 }
    sumd := { partial4.sumd with gap := 1 } }

/-! ### WellFormed -/

theorem test_rdSbus_reserved_ill_formed : (Instr.rdSbus 0x25).wellFormed = false := by decide
theorem test_rdIbus_reserved_ill_formed : (Instr.rdIbus 0x40).wellFormed = false := by decide
theorem test_rdSumd_reserved_ill_formed : (Instr.rdSumd 0x7F).wellFormed = false := by decide
theorem test_rdCrsf_reserved_ill_formed :
    (Instr.rdCrsf 0x26).wellFormed = false ∧ (Instr.rdCrsf 0x3F).wellFormed = false ∧
    (Instr.rdCrsf 0x80).wellFormed = false := by decide
theorem test_rd_edges_well_formed :
    (Instr.rdSbus 0x24).wellFormed = true ∧ (Instr.rdCrsf 0x25).wellFormed = true ∧
    (Instr.rdCrsf 0x40).wellFormed = true ∧ (Instr.rdCrsf 0x7F).wellFormed = true := by decide
theorem test_params_well_formed : params.wellFormed = true := by decide
theorem test_crsfLenMin_ill_formed : { params with crsfLenMin := 1 }.wellFormed = false := by decide
theorem test_crsfLenMax_ill_formed : { params with crsfLenMax := 63 }.wellFormed = false := by decide
theorem test_sumdMinCh_ill_formed : { params with sumdMinCh := 0 }.wellFormed = false := by decide
theorem test_sumdMaxCh_ill_formed : { params with sumdMaxCh := 33 }.wellFormed = false := by decide

/-! ### Decoding: words written out from R100 (OP, DEC, Z, DATA) and the rows of R101 -/

theorem test_decode_nop : decode 0b0000000000000000 = .ok .nop := by decide
theorem test_decode_rxSbus : decode 0b0001000000001111 = .ok (.rxSbus 0x0F) := by decide
theorem test_decode_rxIbus : decode 0b0001010011011100 = .ok (.rxIbus 0xDC) := by decide
theorem test_decode_rxCrsf : decode 0b0001100011001000 = .ok (.rxCrsf 0xC8) := by decide
theorem test_decode_rxSumd : decode 0b0001110010101000 = .ok (.rxSumd 0xA8) := by decide
theorem test_decode_tick : decode 0b0010000000000000 = .ok .tick := by decide
theorem test_decode_rdSbus : decode 0b0011000000100001 = .ok (.rdSbus 0x21) := by decide
theorem test_decode_rdIbus : decode 0b0011010000100010 = .ok (.rdIbus 0x22) := by decide
theorem test_decode_rdCrsf : decode 0b0011100000100000 = .ok (.rdCrsf 0x20) := by decide
theorem test_decode_rdSumd : decode 0b0011110000100100 = .ok (.rdSumd 0x24) := by decide
theorem test_decode_crc8Init : decode 0b0100000000000000 = .ok .crc8Init := by decide
theorem test_decode_crc8Feed : decode 0b0101000000110001 = .ok (.crc8Feed 0x31) := by decide
theorem test_decode_crc8Rd : decode 0b0110000000000000 = .ok .crc8Rd := by decide
theorem test_decode_rdTime : decode 0b0111000000000000 = .ok .rdTime := by decide
theorem test_decode_abortSbus : decode 0b1000000000000000 = .ok .abortSbus := by decide
theorem test_decode_abortIbus : decode 0b1000010000000000 = .ok .abortIbus := by decide
theorem test_decode_abortCrsf : decode 0b1000100000000000 = .ok .abortCrsf := by decide
theorem test_decode_abortSumd : decode 0b1000110000000000 = .ok .abortSumd := by decide
theorem test_decode_reset : decode 0b1111000000000000 = .ok .reset := by decide

/-- V-EN2 to V-EN9, V-EN11, V-EN13, V-EN14. -/
theorem test_decode_illegal :
    decode 0x0001 = .error .dataNotZero ∧ decode 0x0100 = .error .zNotZero ∧
    decode 0x2400 = .error .decNotZero ∧ decode 0x2001 = .error .dataNotZero ∧
    decode 0x9000 = .error .reservedOp ∧ decode 0xE123 = .error .reservedOp ∧
    decode 0x4400 = .error .decNotZero ∧ decode 0x5400 = .error .decNotZero ∧
    decode 0x6001 = .error .dataNotZero ∧ decode 0x8001 = .error .dataNotZero ∧
    decode 0x8100 = .error .zNotZero ∧ decode 0xF001 = .error .dataNotZero ∧
    decode 0x1100 = .error .zNotZero ∧ decode 0x1D55 = .error .zNotZero := by decide

theorem test_decodeTableWord :
    decodeTableWord 16 0x1CA8 = some (.rxSumd 0xA8) ∧ decodeTableWord 16 0x9000 = none := by decide

/-- V-EN17, as the first command after reset. -/
theorem test_withFetchWord_runs :
    ∃ t, step (State.reset.withFetchWord 16 0x5031) = .next t ∧ t.resp = ⟨.ok, 0x23⟩ ∧
      t.crc8Acc = 0x23 ∧ t.pending = [] :=
  ⟨_, rfl, by decide, by decide, rfl⟩

/-! ### Packing and checksums -/

/-- V-PK2. -/
theorem test_pack11_channel1 :
    pack11 (0 :: 0x7FF :: List.replicate 14 0) =
      0x00 :: 0xF8 :: 0x3F :: List.replicate 19 0 := by decide
/-- V-PK5. -/
theorem test_unpack11_ones : unpack11 (List.replicate 22 0xFF) = List.replicate 16 2047 := by
  decide +kernel
/-- V-CK2. -/
theorem test_crc8Step :
    crc8Step 0xD5 0 0x01 = 0xD5 ∧ crc8Step 0xD5 0 0x02 = 0x7F ∧ crc8Step 0xD5 0 0x80 = 0xEF ∧
    crc8Step 0xD5 0 0xC8 = 0x5B := by decide
/-- V-CK6. -/
theorem test_crc8_other_init : crc8 0xD5 0xFF [0x16] = 0x2A := by decide
/-- V-CK8. -/
theorem test_crc16Step :
    crc16Step 0x1021 0 0x01 = 0x1021 ∧ crc16Step 0x1021 0 0x16 = 0x72F7 ∧
    crc16Step 0x1021 0 0x80 = 0x9188 ∧ crc16Step 0x1021 0 0xA8 = 0x34E2 := by decide
/-- V-CK7. -/
theorem test_crc16 :
    crc16 0x1021 0 [0x31, 0x32, 0x33, 0x34, 0x35, 0x36, 0x37, 0x38, 0x39] = 0x31C3 := by
  decide +kernel
/-- V-CK10. -/
theorem test_ibusSum : ibusSum 0xFFFF [0x20, 0x40] = 0xFF9F := by decide

/-! ### One step -/

/-- V-EN1. -/
theorem test_nop : answer .nop boot = ⟨.ok, 0⟩ := by decide

/-- V-SB2: the last byte publishes. -/
theorem test_rxSbus_publishes :
    answer (.rxSbus 0x00) sbusFull = ⟨.ok, 3⟩ ∧
    answer (.rdSbus 0x20) (after (.rxSbus 0x00) sbusFull) = ⟨.ok, 0x0003103F⟩ ∧
    answer (.rdSbus 0x0F) (after (.rxSbus 0x00) sbusFull) = ⟨.ok, 0x00030688⟩ := by decide +kernel

/-- V-SB9: a wrong end byte. -/
theorem test_rxSbus_framing_error :
    answer (.rxSbus 0x0F) sbusFull = ⟨.ok, 0⟩ ∧
    answer (.rdSbus 0x20) (after (.rxSbus 0x0F) sbusFull) = ⟨.ok, 0x00100000⟩ := by decide +kernel

/-- V-IB1: the last byte publishes. -/
theorem test_rxIbus_publishes :
    answer (.rxIbus 0xF3) ibusFull = ⟨.ok, 3⟩ ∧
    answer (.rdIbus 0x20) (after (.rxIbus 0xF3) ibusFull) = ⟨.ok, 0x00001203⟩ ∧
    answer (.rdIbus 0x0D) (after (.rxIbus 0xF3) ibusFull) = ⟨.ok, 0x000305DC⟩ := by decide +kernel

/-- V-IB6: a wrong high checksum byte. -/
theorem test_rxIbus_checksum_error :
    answer (.rxIbus 0x0C) ibusFull = ⟨.ok, 0⟩ ∧
    answer (.rdIbus 0x22) (after (.rxIbus 0x0C) ibusFull) = ⟨.ok, 0x00000100⟩ := by decide +kernel

/-- V-CR4: an extended frame is mirrored, not published. -/
theorem test_rxCrsf_extended :
    answer (.rxCrsf 0x97) crsfFull = ⟨.ok, 1⟩ ∧
    answer (.rdCrsf 0x25) (after (.rxCrsf 0x97) crsfFull) = ⟨.ok, 0x13EAEE28⟩ ∧
    answer (.rdCrsf 0x45) (after (.rxCrsf 0x97) crsfFull) = ⟨.ok, 0x97⟩ := by decide +kernel

/-- V-CR1: an RC-channels frame is published. -/
theorem test_rxCrsf_publishes :
    answer (.rxCrsf 0xAD) crsfRcFull = ⟨.ok, 3⟩ ∧
    answer (.rdCrsf 0x0F) (after (.rxCrsf 0xAD) crsfRcFull) = ⟨.ok, 0x000303E0⟩ := by decide +kernel

/-- V-SD2: the thresholds and FAILSAFE. -/
theorem test_rxSumd_publishes :
    answer (.rxSumd 0xA2) sumdFull = ⟨.ok, 3⟩ ∧
    answer (.rdSumd 0x20) (after (.rxSumd 0xA2) sumdFull) = ⟨.ok, 0x00000423⟩ ∧
    answer (.rdSumd 0x02) (after (.rxSumd 0xA2) sumdFull) = ⟨.ok, 0x00071C20⟩ ∧
    answer (.rdSumd 0x03) (after (.rxSumd 0xA2) sumdFull) = ⟨.ok, 0x000B41A0⟩ := by decide +kernel

/-- V-SD5: an illegal count byte. -/
theorem test_rxSumd_illegal_count :
    answer (.rdSumd 0x20) (after (.rxSumd 0x21)
      { boot with sumd := { boot.sumd with st := .count } }) = ⟨.ok, 0x00100000⟩ := by decide +kernel

/-- V-TM4: both timers fire on one TICK, the byte timeout first. -/
theorem test_tick_both_timers :
    answer (.rdSbus 0x20) (after .tick { published4 with
      sbus := { published4.sbus with st := .data, gap := 1, age := 1 } }) =
      ⟨.ok, 0x00401002⟩ ∧
    answer (.rdSbus 0x22) (after .tick { published4 with
      sbus := { published4.sbus with st := .data, gap := 1, age := 1 } }) =
      ⟨.ok, 0x00010001⟩ := by decide +kernel

/-- V-TM11: the tick counter wraps. -/
theorem test_tick_wraps :
    answer .rdTime (after .tick { boot with ticks := 0xFFFFFFFF }) = ⟨.ok, 0⟩ := by decide +kernel

/-- V-RD1. -/
theorem test_rdSbus_channel : answer (.rdSbus 0x05) boot = ⟨.ok, 0x000C0000⟩ := by decide +kernel

/-- V-RD4. -/
theorem test_rd_reserved :
    answer (.rdSbus 0x25) boot = ⟨.illegal, 0⟩ ∧ answer (.rdIbus 0x40) boot = ⟨.illegal, 0⟩ ∧
    answer (.rdSumd 0x7F) boot = ⟨.illegal, 0⟩ ∧ answer (.rdCrsf 0x80) boot = ⟨.illegal, 0⟩ := by
  decide +kernel

/-- V-CK4. -/
theorem test_crc8Init_crc8Feed :
    answer .crc8Init { boot with crc8Acc := 0x55 } = ⟨.ok, 0⟩ ∧
    answer (.crc8Feed 0x31) boot = ⟨.ok, 0x23⟩ := by decide

/-- V-CK12. -/
theorem test_crc8Rd : answer .crc8Rd boot = ⟨.ok, 0⟩ := by decide

/-- V-AR2: ABORT after a publish keeps the store. -/
theorem test_abortSbus :
    answer (.rdSbus 0x20) (after .abortSbus published4) = ⟨.ok, 0x00001003⟩ := by decide +kernel

/-- ABORT drops a partial frame and records no error (R408, as in P4 steps 25 to 27). -/
theorem test_abort_others :
    answer (.rdIbus 0x23) (after .abortIbus partial4) = ⟨.ok, 0⟩ ∧
    answer (.rdCrsf 0x20) (after .abortCrsf partial4) = ⟨.ok, 0⟩ ∧
    answer (.rdSumd 0x20) (after .abortSumd partial4) = ⟨.ok, 0⟩ := by decide +kernel

/-- V-AR3. -/
theorem test_reset :
    answer .reset published4 = ⟨.ok, 0⟩ ∧
    answer (.rdSbus 0x20) (after .reset published4) = ⟨.ok, 0⟩ ∧
    answer (.rdSbus 0x00) (after .reset published4) = ⟨.ok, 0x000C0000⟩ := by decide +kernel

/-- D4: the nominal count of a 2 ms timeout at a tick period of 1 ms, and of 2.5 ms rounded up. -/
theorem test_nominalTicks :
    nominalTicks 2000000 1000000 = 2 ∧ nominalTicks 2500000 1000000 = 3 := by decide

/-! ### Assembly (R114, R115) -/

/-- Step 30 of P1, and an XBUF index past the mirror. -/
theorem test_assemble_read :
    assembleLine params "RD.SBUS STAMP".toList = .ok [0x3021] ∧
    assembleLine params "RD.CRSF XBUF 63".toList = .ok [0x387F] ∧
    assembleLine params "RD.CRSF XBUF 64".toList = .error .doesNotFit := by decide +kernel

/-- Steps 57 to 62 of P2. -/
theorem test_assemble_crsfFrame :
    assembleLine params "CRSF.FRAME 0x28, 0xEE, 0xEA".toList =
      .ok [0x18C8, 0x1804, 0x1828, 0x18EE, 0x18EA, 0x1897] := by decide +kernel

/-- Steps 2 to 14 of P4. -/
theorem test_assemble_sumdFrame :
    assembleLine params "SUMD.FRAME 0x81, 0x2260, 0x3B60, 0x1C20, 0x41A0".toList =
      .ok [0x1CA8, 0x1C81, 0x1C04, 0x1C22, 0x1C60, 0x1C3B, 0x1C60, 0x1C1C, 0x1C20, 0x1C41, 0x1CA0,
        0x1C7D, 0x1CA2] := by decide +kernel

/-! ### Witnesses: states and operands that meet the hypotheses of an obligation, clause by clause -/

theorem witness_EncodeOfDecode : decode 0x3C24 = .ok (.rdSumd 0x24) := by decide

/-- Each way for a word to be illegal, at the edges of the reserved operations. -/
theorem witness_IllegalCommands_words :
    (∃ e, decode 0x9000 = .error e) ∧ (∃ e, decode 0xEFFF = .error e) ∧
    (∃ e, decode 0x0300 = .error e) ∧ (∃ e, decode 0xF400 = .error e) ∧
    (∃ e, decode 0x8C01 = .error e) :=
  ⟨⟨_, rfl⟩, ⟨_, rfl⟩, ⟨_, rfl⟩, ⟨_, rfl⟩, ⟨_, rfl⟩⟩

theorem witness_IllegalCommands_addresses :
    0x24 < (0x25 : Byte).toNat ∧ 0x24 < (0xFF : Byte).toNat ∧
    (0x25 < (0x26 : Byte).toNat ∧ (0x26 : Byte).toNat < 0x40) ∧
    (0x25 < (0x3F : Byte).toNat ∧ (0x3F : Byte).toNat < 0x40) ∧ 0x7F < (0x80 : Byte).toNat := by
  decide

theorem witness_StepRunsTheDecodedCommand :
    ({ boot with pending := [0x2000, 0x9000] } : State).pending = 0x2000 :: [0x9000] ∧
    decode 0x2000 = .ok .tick := by decide

theorem witness_StepAnswersIllegalWords :
    ({ boot with pending := [0x9000] } : State).pending = 0x9000 :: [] ∧
    decode 0x9000 = .error .reservedOp := by decide

theorem witness_StepWithoutCommandKeepsState : boot.pending = [] := rfl

/-- A next state, for the statements about every command: of one that acts, of one that reads, of one
that is ill formed, of one that publishes. -/
theorem witness_exec_next :
    (∃ t, exec .tick boot = .next t) ∧ (∃ t, exec (.rdSbus 0x24) boot = .next t) ∧
    (∃ t, exec (.rdSbus 0x25) boot = .next t) ∧ (∃ t, exec (.rxIbus 0xF3) ibusFull = .next t) :=
  ⟨⟨_, rfl⟩, ⟨_, rfl⟩, ⟨_, rfl⟩, ⟨_, rfl⟩⟩

/-- Every FSM state of RxSbusResult, and both bytes of each. -/
theorem witness_RxSbusResult :
    boot.sbus.st = .undefined ∧ published4.sbus.st = .gotEnd ∧ partial4.sbus.st = .data ∧
    sbusFull.sbus.st = .waitEnd ∧ (0x0F : Byte) = params.sbusStart ∧ (0x00 : Byte) = params.sbusEnd ∧
    (0x0F : Byte) ≠ params.sbusEnd := by decide

theorem witness_RxIbusResult :
    boot.ibus.st = .idle ∧ partial4.ibus.st = .hdr ∧ ibusFull.ibus.st = .data ∧
    ibusFull.ibus.idx + 1 = 32 ∧ (0x20 : Byte) = params.ibusHdr0 ∧ (0x40 : Byte) = params.ibusHdr1 ∧
    (ibusFull.ibus.byte 30 = lowByte ibusFull.ibus.acc ∧ 0xF3 = highByte ibusFull.ibus.acc) ∧
    (0x0C : Byte) ≠ highByte ibusFull.ibus.acc := by decide +kernel

/-- Every FSM state of RxCrsfResult, the shortest and the longest legal length byte among them. -/
theorem witness_RxCrsfResult :
    boot.crsf.st = .sync ∧ partial4.crsf.st = .len ∧ crsfFull.crsf.st = .data ∧
    (params.crsfLenMin ≤ 2 ∧ 2 ≤ params.crsfLenMax) ∧
    (params.crsfLenMin ≤ 62 ∧ 62 ≤ params.crsfLenMax) ∧
    ¬ (params.crsfLenMin ≤ 63 ∧ 63 ≤ params.crsfLenMax) ∧
    crsfFull.crsf.idx + 1 = crsfFull.crsf.exp ∧ lowByte crsfFull.crsf.acc = 0x97 ∧
    crsfFull.crsf.byte 2 ≠ params.crsfTypeRc ∧ crsfRcFull.crsf.byte 2 = params.crsfTypeRc ∧
    crsfRcFull.crsf.exp = 24 := by decide +kernel

/-- Every FSM state of RxSumdResult, the least and the greatest legal count among them. -/
theorem witness_RxSumdResult :
    boot.sumd.st = .sync ∧ partial4.sumd.st = .status ∧ sumdFull.sumd.st = .data ∧
    ({ boot.sumd with st := .count } : SumdDecoder).st = .count ∧
    (0x81 : Byte) = params.sumdStFailsafe ∧ (params.sumdMinCh ≤ 1 ∧ 1 ≤ params.sumdMaxCh) ∧
    (params.sumdMinCh ≤ 32 ∧ 32 ≤ params.sumdMaxCh) ∧ ¬ (33 : Byte) ≤ params.sumdMaxCh ∧
    (sumdFull.sumd.idx + 1).toNat = 2 * sumdFull.sumd.exp.toNat + 2 ∧
    beHalf (sumdFull.sumd.byte 11) 0xA2 = sumdFull.sumd.acc := by decide +kernel

/-- Both ends of every range of addresses of ReadResults. -/
theorem witness_ReadResults :
    (0x00 : Byte).toNat ≤ 0x1F ∧ (0x1F : Byte).toNat ≤ 0x1F ∧ (0x24 : Byte).toNat ≤ 0x24 ∧
    (0x40 ≤ (0x40 : Byte).toNat ∧ (0x40 : Byte).toNat ≤ 0x7F) ∧
    (0x40 ≤ (0x7F : Byte).toNat ∧ (0x7F : Byte).toNat ≤ 0x7F) := by decide

/-- For ResetValues and ReadsAfterReset: at power-on, and after RESET. -/
theorem witness_JustReset : JustReset params boot ∧ JustReset params (after .reset published4) :=
  ⟨.inl rfl, .inr ⟨published4, rfl, rfl⟩⟩

/-- One channel, and a full SumD frame. -/
theorem witness_PublishWritesTheInactiveBank :
    (32 : Nat) ≤ 63 ∧ 1 ≤ [(0x2EE0 : Half)].length ∧ [(0x2EE0 : Half)].length ≤ 32 ∧
    [ChanClass.inRange].length = [(0x2EE0 : Half)].length ∧
    1 ≤ (List.replicate 32 (0 : Half)).length ∧ (List.replicate 32 (0 : Half)).length ≤ 32 ∧
    (List.replicate 32 ChanClass.out).length = (List.replicate 32 (0 : Half)).length := by decide

/-- An extended frame of the least length, and one that is not extended. -/
theorem witness_MirrorCopiesTheFrame :
    4 = (crsfFull.crsf.byte 1).toNat ∧ params.crsfExtMin.toNat ≤ (crsfFull.crsf.byte 2).toNat ∧
    24 = (crsfRcFull.crsf.byte 1).toNat ∧
    ¬ params.crsfExtMin.toNat ≤ (crsfRcFull.crsf.byte 2).toNat := by decide +kernel

theorem witness_PackAndUnpackAreInverse :
    (List.replicate 16 (2047 : Half)).length = 16 ∧
    (∀ c ∈ List.replicate 16 (2047 : Half), c.toNat < 2048) ∧
    (List.replicate 22 (0xFF : Byte)).length = 22 :=
  ⟨rfl, fun c h => List.eq_of_mem_replicate h ▸ by decide, rfl⟩

theorem witness_IbusSumIsSeedLessSum :
    [(1 : Byte), 2].Perm [2, 1] ∧ (List.replicate 30 (0xFF : Byte)).length = 30 := by decide

theorem witness_PartsAreIndependent :
    partOf (.rxCrsf 0xC8) = some 2 ∧ partOf (.crc8Feed 0xC8) = some 4 ∧ (2 : Nat) ≠ 4 := by decide

/-- Two different states that differ only in bookkeeping fields. -/
theorem witness_BookkeepingChangesNoOutcome :
    boot.sansBooks = ({ boot with sbus := { boot.sbus with frmErr := 7 } } : State).sansBooks ∧
    boot ≠ { boot with sbus := { boot.sbus with frmErr := 7 } } ∧
    showsBooks (.rdSbus 0x21) = false := by decide +kernel

/-- Every decoder state of a run is legal: after reset, in a partial frame, after a publish. -/
theorem witness_Inv : boot.Inv ∧ partial4.Inv ∧ published4.Inv := by
  refine ⟨⟨by decide, ⟨?_, ?_, ?_, ?_, rfl, rfl, rfl⟩, ⟨?_, ?_, rfl, rfl, rfl, rfl⟩,
      ⟨?_, ?_, ?_, ?_, rfl, rfl, ?_, rfl, rfl⟩, ⟨fun _ => rfl, nofun⟩,
      ⟨?_, ?_, rfl, rfl, rfl, rfl⟩⟩,
    ⟨by decide, ⟨?_, ?_, ?_, ?_, rfl, rfl, (by decide : (0 : BitVec 8).toNat < 23)⟩,
      ⟨?_, ?_, rfl, rfl, rfl, rfl, ?_⟩, ⟨?_, ?_, ?_, ?_, rfl, rfl, ?_, rfl, rfl, ?_⟩,
      ⟨fun _ => rfl, nofun⟩, ⟨?_, ?_, rfl, rfl, rfl, rfl, ?_⟩⟩,
    ⟨by decide, ⟨?_, ?_, ?_, ?_, rfl, rfl, rfl, rfl⟩, ⟨?_, ?_, rfl, rfl, rfl, rfl⟩,
      ⟨?_, ?_, ?_, ?_, rfl, rfl, ?_, rfl, rfl⟩, ⟨fun _ => rfl, nofun⟩,
      ⟨?_, ?_, rfl, rfl, rfl, rfl⟩⟩⟩
  all_goals
    first
    | decide +kernel
    | (unfold Decoder.TimersOk; decide +kernel)
    | (unfold Decoder.StoreOk Bank.Marked; decide +kernel)
    | (unfold Bank.ElevenBit; decide +kernel)

theorem witness_Summed : boot.Summed ∧ partial4.Summed :=
  ⟨⟨.inl rfl, nofun, trivial, nofun⟩,
   ⟨.inr (by decide +kernel), nofun,
    (by decide +kernel : partial4.sumd.acc = crc16 0x1021 0 (partial4.sumd.bytes 0 1)), nofun⟩⟩

/-- Two different legal states that differ only in a buffer byte no frame has written. -/
theorem witness_HiddenContentIsNeverObserved :
    boot.Inv ∧ boot.SeenEq { boot with sbus := { boot.sbus with buf := bufOf 23 [0x55] } } ∧
    boot ≠ { boot with sbus := { boot.sbus with buf := bufOf 23 [0x55] } } := by
  have same : ∀ (σ : Type) (n cap : Nat) (f : Decoder σ n cap → Nat) (D : Decoder σ n cap),
      D.SeenEq f D := fun _ _ _ _ _ =>
    ⟨rfl, rfl, rfl, rfl, rfl, rfl, rfl, rfl, rfl, rfl, rfl, rfl, rfl, rfl, fun _ _ => rfl, rfl, rfl,
      fun _ _ => ⟨rfl, rfl⟩⟩
  refine ⟨witness_Inv.1, ⟨rfl, rfl, rfl, rfl, rfl, rfl, ?_, same _ _ _ _ _, same _ _ _ _ _,
    same _ _ _ _ _⟩, by decide +kernel⟩
  exact ⟨rfl, rfl, rfl, rfl, rfl, rfl, rfl, rfl, rfl, rfl, rfl, rfl, rfl, rfl,
    fun i h => absurd h (Nat.not_lt_zero i), rfl, rfl, fun _ _ => ⟨rfl, rfl⟩⟩

/-- For StepKeepsInv and StepKeepsChecksums: a step with a command waiting, from a legal state. -/
theorem witness_step_next :
    (partial4.withFetchWord 16 0x100F).Inv ∧ (partial4.withFetchWord 16 0x100F).Summed ∧
    ∃ t, step (partial4.withFetchWord 16 0x100F) = .next t ∧ t.sbus.idx = 1 :=
  ⟨witness_Inv.2.1, witness_Summed.2, _, rfl, rfl⟩

/-- A state of a run with a value at each limit of each range, and an absent channel. -/
theorem witness_OkChannelsAreInRange_Inv : edges4.Inv := by
  refine ⟨by decide, ⟨?_, ?_, ?_, ?_, rfl, rfl, rfl, rfl⟩, ⟨?_, ?_, rfl, rfl, rfl, rfl⟩,
    ⟨?_, ?_, ?_, ?_, rfl, rfl, ?_, rfl, rfl⟩, ⟨fun _ => rfl, nofun⟩, ⟨?_, ?_, rfl, rfl, rfl, rfl⟩⟩
  all_goals
    first
    | decide +kernel
    | (unfold Decoder.TimersOk; decide +kernel)
    | (unfold Decoder.StoreOk Bank.Marked; decide +kernel)
    | (unfold Bank.ElevenBit; decide +kernel)

/-- The CHAN words of that state: V-SB5's for SBus and CRSF, those of V-SD2 and V-SD3 for SumD. -/
theorem witness_OkChannelsAreInRange :
    exec (.rdSbus 0x00) edges4 = .next { edges4 with resp := ⟨.ok, 0x000E00AB⟩ } ∧
    exec (.rdSbus 0x01) edges4 = .next { edges4 with resp := ⟨.ok, 0x000300AC⟩ } ∧
    exec (.rdCrsf 0x02) edges4 = .next { edges4 with resp := ⟨.ok, 0x00030713⟩ } ∧
    exec (.rdCrsf 0x03) edges4 = .next { edges4 with resp := ⟨.ok, 0x000E0714⟩ } ∧
    exec (.rdIbus 0x01) edges4 = .next { edges4 with resp := ⟨.ok, 0x0003FFFF⟩ } ∧
    exec (.rdIbus 0x12) edges4 = .next { edges4 with resp := ⟨.ok, 0x000E0000⟩ } ∧
    exec (.rdSumd 0x00) edges4 = .next { edges4 with resp := ⟨.ok, 0x000E1C1F⟩ } ∧
    exec (.rdSumd 0x01) edges4 = .next { edges4 with resp := ⟨.ok, 0x00071C20⟩ } ∧
    exec (.rdSumd 0x02) edges4 = .next { edges4 with resp := ⟨.ok, 0x0007225F⟩ } ∧
    exec (.rdSumd 0x03) edges4 = .next { edges4 with resp := ⟨.ok, 0x00032260⟩ } ∧
    exec (.rdSumd 0x04) edges4 = .next { edges4 with resp := ⟨.ok, 0x00033B60⟩ } ∧
    exec (.rdSumd 0x05) edges4 = .next { edges4 with resp := ⟨.ok, 0x000B3B61⟩ } ∧
    exec (.rdSumd 0x06) edges4 = .next { edges4 with resp := ⟨.ok, 0x000B41A0⟩ } ∧
    exec (.rdSumd 0x07) edges4 = .next { edges4 with resp := ⟨.ok, 0x000E41A1⟩ } ∧
    exec (.rdSumd 0x1F) edges4 = .next { edges4 with resp := ⟨.ok, 0x000E0000⟩ } :=
  ⟨rfl, rfl, rfl, rfl, rfl, rfl, rfl, rfl, rfl, rfl, rfl, rfl, rfl, rfl, rfl⟩

/-- Partial frames of every decoder whose last byte has just arrived, and commands none of which is
for a decoder, one TICK short of the timeout and reaching it. -/
theorem witness_SilenceAbortsAPartialFrame :
    (∀ a, a < 4 → QuietFor a [.tick, .rdTime] ∧ QuietFor a [.tick, .crc8Init, .tick]) ∧
    partial4.sbus.st.isIdle = false ∧ partial4.ibus.st.isIdle = false ∧
    partial4.crsf.st.isIdle = false ∧ partial4.sumd.st.isIdle = false ∧
    partial4.sbus.gap = 0 ∧ partial4.params.tByteSbus = 2 ∧ partial4.params.tByteSumd = 2 ∧
    boot.sbus.st.isIdle = true ∧ published4.sbus.st.isIdle = true := by
  unfold QuietFor
  decide

/-- For SilenceAbortsAPartialFrame and SilenceMakesTheFrameStale: a sequence of commands answers a
next state. -/
theorem witness_execAll_next : ∃ t, execAll [.tick, .crc8Init, .tick] partial4 = .next t := ⟨_, rfl⟩

/-- Frames of every decoder that has just published, and commands that do not publish again. -/
theorem witness_SilenceMakesTheFrameStale :
    (∀ a, Unpublished a [.tick, .tick] published4) ∧ Instr.reset ∉ [Instr.tick, .tick] ∧
    published4.sbus.valid = true ∧ published4.ibus.valid = true ∧ published4.crsf.valid = true ∧
    published4.sumd.valid = true ∧ published4.sbus.age = 0 ∧ published4.params.tStaleSbus = 2 ∧
    published4.params.tStaleSumd = 2 := by
  refine ⟨fun a => fun _ _ => ⟨fun h => ?_, fun _ _ => ⟨fun h => ?_, trivial⟩⟩, by decide⟩ <;>
    exact nomatch h.1

/-- Disabled timers on a partial frame, and timers of 1 TICK. -/
theorem witness_ZeroDisablesATimer :
    ({ params with tByteSbus := 0, tStaleSbus := 0 } : Params).wellFormed = true ∧
    (State.resetWith { params with tByteSbus := 0, tStaleSbus := 0 }).params.tByteSbus = 0 ∧
    (State.resetWith { params with tByteSbus := 0, tStaleSbus := 0 }).params.tStaleSbus = 0 ∧
    (sbusProtocol.isIdle partial4.sbus.st = false ∧ partial4.sbus.gap = 0 ∧
      sbusProtocol.tByte { params with tByteSbus := 1 } = 1) ∧
    (published4.sbus.valid = true ∧ published4.sbus.age = 0 ∧
      sbusProtocol.tStale { params with tStaleSbus := 1 } = 1) := by decide

/-- For the SBus frames: all channels at the greatest value. -/
theorem witness_SbusFrames :
    boot.sbus.st.isIdle = true ∧ (List.replicate 16 (2047 : Half)).length = 16 ∧
    ∀ c ∈ List.replicate 16 (2047 : Half), c.toNat < 2048 :=
  ⟨rfl, rfl, fun c h => List.eq_of_mem_replicate h ▸ by decide⟩

/-- For the IBus frames: a changed byte at both ends of the range. -/
theorem witness_IbusFrames :
    boot.ibus.st = .idle ∧ (List.replicate 14 (1500 : Half)).length = 14 ∧
    params.ibusCompMap = .upperNibbles ∧
    (0x21 : Byte) ≠ (ibusFrame params (List.replicate 14 1500)).getD 0 0 ∧
    (0x41 : Byte) ≠ (ibusFrame params (List.replicate 14 1500)).getD 1 0 ∧
    (0xDC : Byte) ≠ (ibusFrame params (List.replicate 14 1500)).getD 29 0 := by decide +kernel

/-- For the CRSF frames: lengths 2, 24 and 62, and a changed CRC byte. -/
theorem witness_CrsfFrames :
    boot.crsf.st = .sync ∧ params.crsfLenMin.toNat ≤ 24 ∧ 24 ≤ params.crsfLenMax.toNat ∧
    (0x30 : Byte) ≠ params.crsfTypeRc ∧ params.crsfLenMin.toNat ≤ ([] : List Byte).length + 2 ∧
    (List.replicate 60 (0 : Byte)).length + 2 ≤ params.crsfLenMax.toNat ∧
    params.crc8Poly.getLsbD 0 = true ∧ (0xF7 : Byte) ≠ (crsfFrame params 0x30 []).getD 3 0 ∧
    (3 : Nat) < ([] : List Byte).length + 4 ∧ (0x31 : Byte) ≠ (crsfFrame params 0x30 []).getD 2 0 := by
  decide +kernel

/-- For the SumD frames: 1 and 32 channels, both statuses, a changed channel byte, CRC byte and status
byte, the last to a legal value and to an illegal one. -/
theorem witness_SumdFrames :
    boot.sumd.st = .sync ∧ params.sumdCrcPoly.getLsbD 0 = true ∧
    ((0x01 : Byte) = params.sumdStNormal ∧ (0x81 : Byte) = params.sumdStFailsafe) ∧
    params.sumdMinCh.toNat ≤ [(0x2EE0 : Half)].length ∧
    (List.replicate 32 (0x2EE0 : Half)).length ≤ params.sumdMaxCh.toNat ∧
    (0x2F : Byte) ≠ (sumdFrame params 0x01 [0x2EE0]).getD 3 0 ∧
    (0x0B : Byte) ≠ (sumdFrame params 0x01 [0x2EE0]).getD 6 0 ∧
    (0x81 : Byte) ≠ (sumdFrame params 0x01 [0x2EE0]).getD 1 0 ∧
    ¬ ((0x02 : Byte) = params.sumdStNormal ∨ (0x02 : Byte) = params.sumdStFailsafe) := by
  decide +kernel

/-- For BytesReturnToIdle and RecoveryAfterSilence, beside `witness_Inv`: bytes, and a silence. -/
theorem witness_Recovery :
    (List.replicate 24 (0x0F : Byte)).length = 24 ∧ (List.replicate 32 (0x20 : Byte)).length = 32 ∧
    (List.replicate 63 (0xC8 : Byte)).length = 63 ∧ (List.replicate 68 (0xA8 : Byte)).length = 68 ∧
    (∀ b, Instr.rxSbus b ∉ [Instr.tick, .abortSbus, .tick] ∧
      Instr.rxIbus b ∉ [Instr.tick, .abortSbus, .tick] ∧
      Instr.rxCrsf b ∉ [Instr.tick, .abortSbus, .tick] ∧
      Instr.rxSumd b ∉ [Instr.tick, .abortSbus, .tick]) ∧
    partial4.params.tByteSbus.toNat ≤ [Instr.tick, .abortSbus, .tick].count .tick ∧
    partial4.params.tByteSumd ≠ 0 ∧ (List.replicate 22 (0 : Byte)).length = 22 :=
  ⟨rfl, rfl, rfl, rfl, fun b => by simp, by decide, by decide, rfl⟩

theorem witness_EdgeReadSeesTheOldState :
    (∃ u, executeWord 0x3000 sbusFull = .next u) ∧ isReadWord 0x3000 = true ∧
    ∃ t o, clockEdge ⟨false, true, some 0x00, none, none, none, some 0x3000⟩ sbusFull =
      .next (t, o) :=
  ⟨⟨_, rfl⟩, by decide, ⟨_, _, rfl⟩⟩

/-- A partial frame of every decoder on the TICK of its timeout, and a read on `cmd`. -/
theorem witness_EdgeByteIsTooLateForItsTick :
    GapFires sbusProtocol late4.params late4.sbus ∧ GapFires ibusProtocol late4.params late4.ibus ∧
    GapFires crsfProtocol late4.params late4.crsf ∧ GapFires sumdProtocol late4.params late4.sumd ∧
    isReadWord 0x3000 = true := by
  decide +kernel

/-- For every decoder: a byte that completes a frame, and one that does not. -/
theorem witness_EdgeAbortRunsAfterTheByte :
    (∃ u, exec (.rxSbus 0x00) sbusFull = .next u ∧ u.resp = ⟨.ok, 3⟩) ∧
    (∃ u, exec (.rxIbus 0xF3) ibusFull = .next u ∧ u.resp = ⟨.ok, 3⟩) ∧
    (∃ u, exec (.rxCrsf 0xAD) crsfRcFull = .next u ∧ u.resp = ⟨.ok, 3⟩) ∧
    (∃ u, exec (.rxCrsf 0x97) crsfFull = .next u ∧ u.resp ≠ ⟨.ok, 3⟩) ∧
    (∃ u, exec (.rxSumd 0xA2) sumdFull = .next u ∧ u.resp = ⟨.ok, 3⟩) ∧
    ∃ u, exec (.rxSbus 0x00) partial4 = .next u ∧ u.resp ≠ ⟨.ok, 3⟩ :=
  ⟨⟨_, rfl, by decide +kernel⟩, ⟨_, rfl, by decide +kernel⟩, ⟨_, rfl, by decide +kernel⟩,
   ⟨_, rfl, by decide +kernel⟩, ⟨_, rfl, by decide +kernel⟩, ⟨_, rfl, by decide +kernel⟩⟩

theorem witness_EdgeResetOverridesAll :
    (PortInput.mk true true (some 0x0F) none none none (some 0x3000)).rst = true := rfl

end Sys2Proof.Tests
end

section
/-! SUPPORT. What each command does, as one equation per command over the named updates of State
(R400 to R409, R204, R243, R284, R333, R375 to R377). Proofs about commands use these equations. -/

namespace Sys2Proof.Machine

/-- The response to a read: the word read, or R410's for a reserved address (R406). -/
def readAnswer : Option Word → Response
  | some w => respOk w
  | none => respIllegal

theorem State.answerRead_eq (s : State) (o : Option Word) :
    s.answerRead o = s.setResp (readAnswer o) := by
  cases o <;> rfl

@[simp] theorem exec_nop (s : State) : exec .nop s = .next (s.setResp (respOk 0)) := rfl

@[simp] theorem exec_rxSbus (b : Byte) (s : State) :
    exec (.rxSbus b) s = .next ((s.setSbus (sbusReceive s.params s.ticks b s.sbus).decoder).setResp
      (sbusReceive s.params s.ticks b s.sbus).resp) := rfl

@[simp] theorem exec_rxIbus (b : Byte) (s : State) :
    exec (.rxIbus b) s = .next ((s.setIbus (ibusReceive s.params s.ticks b s.ibus).decoder).setResp
      (ibusReceive s.params s.ticks b s.ibus).resp) := rfl

@[simp] theorem exec_rxCrsf (b : Byte) (s : State) :
    exec (.rxCrsf b) s =
      .next (((s.setCrsf (crsfReceive s.params s.ticks b s.crsf s.mirror).decoder.decoder).setMirror
        (crsfReceive s.params s.ticks b s.crsf s.mirror).decoder.mirror).setResp
        (crsfReceive s.params s.ticks b s.crsf s.mirror).resp) := rfl

@[simp] theorem exec_rxSumd (b : Byte) (s : State) :
    exec (.rxSumd b) s = .next ((s.setSumd (sumdReceive s.params s.ticks b s.sumd).decoder).setResp
      (sumdReceive s.params s.ticks b s.sumd).resp) := rfl

@[simp] theorem exec_tick (s : State) :
    exec .tick s = .next (s.advance.setResp (respOk 0)) := rfl

@[simp] theorem exec_rdSbus (a : Byte) (s : State) :
    exec (.rdSbus a) s = .next (s.setResp (readAnswer (readCommon sbusProtocol s.sbus a))) :=
  congrArg Host.Outcome.next (s.answerRead_eq _)

@[simp] theorem exec_rdIbus (a : Byte) (s : State) :
    exec (.rdIbus a) s = .next (s.setResp (readAnswer (readCommon ibusProtocol s.ibus a))) :=
  congrArg Host.Outcome.next (s.answerRead_eq _)

@[simp] theorem exec_rdCrsf (a : Byte) (s : State) :
    exec (.rdCrsf a) s = .next (s.setResp (readAnswer (readCrsf s.crsf s.mirror a))) :=
  congrArg Host.Outcome.next (s.answerRead_eq _)

@[simp] theorem exec_rdSumd (a : Byte) (s : State) :
    exec (.rdSumd a) s = .next (s.setResp (readAnswer (readCommon sumdProtocol s.sumd a))) :=
  congrArg Host.Outcome.next (s.answerRead_eq _)

@[simp] theorem exec_crc8Init (s : State) :
    exec .crc8Init s = .next ((s.setCrc8Acc s.params.crc8Init).setResp
      (respOk (s.params.crc8Init.setWidth 32))) := rfl

@[simp] theorem exec_crc8Feed (b : Byte) (s : State) :
    exec (.crc8Feed b) s = .next ((s.setCrc8Acc (crc8Step s.params.crc8Poly s.crc8Acc b)).setResp
      (respOk ((crc8Step s.params.crc8Poly s.crc8Acc b).setWidth 32))) := rfl

@[simp] theorem exec_crc8Rd (s : State) :
    exec .crc8Rd s = .next (s.setResp (respOk (s.crc8Acc.setWidth 32))) := rfl

@[simp] theorem exec_rdTime (s : State) :
    exec .rdTime s = .next (s.setResp (respOk s.ticks)) := rfl

@[simp] theorem exec_abortSbus (s : State) :
    exec .abortSbus s = .next ((s.setSbus (restart sbusProtocol s.sbus)).setResp (respOk 0)) := rfl

@[simp] theorem exec_abortIbus (s : State) :
    exec .abortIbus s = .next ((s.setIbus (restart ibusProtocol s.ibus)).setResp (respOk 0)) := rfl

@[simp] theorem exec_abortCrsf (s : State) :
    exec .abortCrsf s = .next ((s.setCrsf (restart crsfProtocol s.crsf)).setResp (respOk 0)) := rfl

@[simp] theorem exec_abortSumd (s : State) :
    exec .abortSumd s = .next ((s.setSumd (restart sumdProtocol s.sumd)).setResp (respOk 0)) := rfl

@[simp] theorem exec_reset (s : State) :
    exec .reset s =
      .next (((State.resetWith s.params).setPending s.pending).setResp (respOk 0)) := rfl

/-- Every command answers a next state: nothing leaves the block stuck (R467). -/
theorem exec_total (i : Instr) (s : State) : ∃ t, exec i s = .next t := by
  cases i <;> exact ⟨_, rfl⟩

/-- With no command waiting a step keeps the state (log 1). -/
theorem step_of_nil {s : State} (h : s.pending = []) : step s = .next s := by
  unfold step fetch
  rw [h]

/-- A step executes the oldest waiting word (log 1). -/
theorem step_of_cons {s : State} {w : CmdWord} {rest : List CmdWord} (h : s.pending = w :: rest) :
    step s = executeWord w (s.setPending rest) := by
  unfold step fetch
  rw [h]

/-- A step is nothing, or the oldest waiting command, or the answer to an illegal word. -/
theorem step_cases (s : State) :
    step s = .next s ∨
    (∃ i rest, step s = exec i (s.setPending rest)) ∨
    (∃ rest, step s = .next ((s.setPending rest).setResp respIllegal)) := by
  cases hq : s.pending with
  | nil => exact .inl (step_of_nil hq)
  | cons w rest =>
    rw [step_of_cons hq]
    cases hd : decode w with
    | ok i => exact .inr (.inl ⟨i, rest, executeWord_ok hd _⟩)
    | error e => exact .inr (.inr ⟨rest, executeWord_error hd _⟩)

/-! ### What no command changes (R41, R492) -/

/-- Settles O10: by the equation of each command. -/
theorem parametersNeverChange : Obligations.ParametersNeverChange := by
  intro i s t h
  cases i <;> simp at h <;> subst h <;> exact ⟨rfl, rfl⟩

/-! ### The reset values (R53) -/

@[simp] theorem Bank.reset_valueAt (cap k : Nat) : (Bank.reset cap).valueAt k = 0 := by
  unfold Bank.valueAt Bank.reset
  by_cases h : k < cap <;> simp [h]

@[simp] theorem Bank.reset_classAt (cap k : Nat) : (Bank.reset cap).classAt k = .out := by
  unfold Bank.classAt Bank.reset
  by_cases h : k < cap <;> simp [h]

@[simp] theorem Bank.reset_cnt (cap : Nat) : (Bank.reset cap).cnt = 0 := rfl

@[simp] theorem Bank.reset_fl (cap : Nat) : (Bank.reset cap).fl = 0 := rfl

/-- A state right after reset is `State.resetWith` but for the last response and the queue. -/
theorem JustReset.eq_resetWith {p : Params} {s : State} (h : JustReset p s) :
    ∃ q r, s = ((State.resetWith p).setPending q).setResp r := by
  rcases h with rfl | ⟨u, rfl, hu⟩
  · exact ⟨[], respOk 0, rfl⟩
  · rw [exec_reset, Host.Outcome.next.injEq] at hu
    exact ⟨_, _, hu.symm⟩

/-- Settles O23: both ways into the state right after reset give the table of R53. -/
theorem resetValues : Obligations.ResetValues := by
  refine ⟨rfl, fun p s h => ?_⟩
  obtain ⟨q, r, rfl⟩ := h.eq_resetWith
  exact ⟨rfl, rfl, rfl, rfl, rfl, rfl, rfl,
    fun cap k _ => ⟨Bank.reset_valueAt cap k, Bank.reset_classAt cap k⟩,
    fun cap => ⟨Bank.reset_cnt cap, Bank.reset_fl cap⟩⟩

end Sys2Proof.Machine
end

section
/-! SUPPORT. The five parts of the block share no state (R33, R378): a command of one part keeps the
others, and what it leaves of its own part is fixed by that part, the parameters and the tick. -/

namespace Sys2Proof.Machine

/-- Two states agree on part `a` of the block, numbered as in `partOf`. -/
def State.PartEq (a : Nat) (s t : State) : Prop :=
  match a with
  | 0 => s.sbus = t.sbus
  | 1 => s.ibus = t.ibus
  | 2 => s.crsf = t.crsf ∧ s.mirror = t.mirror
  | 3 => s.sumd = t.sumd
  | 4 => s.crc8Acc = t.crc8Acc
  | _ => True

/-- Two states agree on what belongs to no part: the parameters, the tick counter, the queue. -/
def State.SharedEq (s t : State) : Prop :=
  s.params = t.params ∧ s.ticks = t.ticks ∧ s.pending = t.pending

theorem State.PartEq.symm {a : Nat} {s t : State} (h : s.PartEq a t) : t.PartEq a s := by
  unfold State.PartEq at *
  split at h <;> simp_all

theorem State.PartEq.trans {a : Nat} {s t u : State} (h : s.PartEq a t) (k : t.PartEq a u) :
    s.PartEq a u := by
  unfold State.PartEq at *
  split at h <;> simp_all

theorem State.SharedEq.symm {s t : State} (h : s.SharedEq t) : t.SharedEq s :=
  ⟨h.1.symm, h.2.1.symm, h.2.2.symm⟩

theorem State.SharedEq.trans {s t u : State} (h : s.SharedEq t) (k : t.SharedEq u) : s.SharedEq u :=
  ⟨h.1.trans k.1, h.2.1.trans k.2.1, h.2.2.trans k.2.2⟩

/-- The parts and the shared fields are the whole state but for the last response. -/
theorem State.setResp_eq_of_parts {s t : State} (r : Response) (hs : s.SharedEq t)
    (hp : ∀ a, s.PartEq a t) : s.setResp r = t.setResp r := by
  obtain ⟨hparams, hticks, hpending⟩ := hs
  have h0 : s.sbus = t.sbus := hp 0
  have h1 : s.ibus = t.ibus := hp 1
  obtain ⟨h2, h2'⟩ : s.crsf = t.crsf ∧ s.mirror = t.mirror := hp 2
  have h3 : s.sumd = t.sumd := hp 3
  have h4 : s.crc8Acc = t.crc8Acc := hp 4
  simp only [State.setResp, hparams, hticks, hpending, h0, h1, h2, h2', h3, h4]

/-- A command of part `a` keeps the shared fields and every other part. -/
theorem exec_keeps_otherParts {i : Instr} {a : Nat} {s t : State} (hi : partOf i = some a)
    (h : exec i s = .next t) : s.SharedEq t ∧ ∀ b, b ≠ a → s.PartEq b t := by
  cases i <;> cases hi <;> cases h <;>
    exact ⟨⟨rfl, rfl, rfl⟩, fun b hb => by unfold State.PartEq; split <;> trivial⟩

/-- What a command of part `a` leaves of that part does not depend on the other parts. -/
theorem exec_part_congr {i : Instr} {a : Nat} {s s' t t' : State} (hi : partOf i = some a)
    (hs : s.SharedEq s') (ha : s.PartEq a s') (h : exec i s = .next t)
    (h' : exec i s' = .next t') : t.PartEq a t' := by
  obtain ⟨hparams, hticks, -⟩ := hs
  cases i <;> cases hi <;> cases h <;> cases h' <;> simp_all [State.PartEq]

/-- After `i` of part `a` and `j` of part `b` in either order, part `a` is the same. -/
theorem exec_exchange_part {i j : Instr} {a b : Nat} {s s₁ s₂ t u : State}
    (hi : partOf i = some a) (hj : partOf j = some b) (hab : a ≠ b)
    (hs₁ : exec i s = .next s₁) (ht : exec j s₁ = .next t)
    (hs₂ : exec j s = .next s₂) (hu : exec i s₂ = .next u) : t.PartEq a u := by
  obtain ⟨-, keepT⟩ := exec_keeps_otherParts hj ht
  obtain ⟨sharedS₂, keepS₂⟩ := exec_keeps_otherParts hj hs₂
  exact (keepT a hab).symm.trans (exec_part_congr hi sharedS₂ (keepS₂ a hab) hs₁ hu)

/-- Settles O34: the two orders agree on each command's own part by `exec_exchange_part`, and on
every other part because both commands keep it. -/
theorem partsAreIndependent : Obligations.PartsAreIndependent := by
  intro i j a b s hi hj hab
  obtain ⟨s₁, hs₁⟩ := exec_total i s
  obtain ⟨t, ht⟩ := exec_total j s₁
  obtain ⟨s₂, hs₂⟩ := exec_total j s
  obtain ⟨u, hu⟩ := exec_total i s₂
  refine ⟨t, u, by simp [hs₁, ht], by simp [hs₂, hu], ?_⟩
  obtain ⟨shared₁, keep₁⟩ := exec_keeps_otherParts hi hs₁
  obtain ⟨sharedT, keepT⟩ := exec_keeps_otherParts hj ht
  obtain ⟨shared₂, keep₂⟩ := exec_keeps_otherParts hj hs₂
  obtain ⟨sharedU, keepU⟩ := exec_keeps_otherParts hi hu
  refine State.setResp_eq_of_parts _
    ((shared₁.trans sharedT).symm.trans (shared₂.trans sharedU)) fun c => ?_
  by_cases hca : c = a
  · subst hca
    exact exec_exchange_part hi hj hab hs₁ ht hs₂ hu
  by_cases hcb : c = b
  · subst hcb
    exact (exec_exchange_part hj hi hab.symm hs₂ hu hs₁ ht).symm
  · exact ((keep₁ c hca).trans (keepT c hcb)).symm.trans ((keep₂ c hcb).trans (keepU c hca))

end Sys2Proof.Machine
end

section
/-! SUPPORT. The bookkeeping fields `LAST_ERR`, `FRM_ERR`, `CK_ERR` and `FRAMES` are written and never
read (R36): every operation gives the same outcome, up to those fields, when they are erased first. -/

namespace Sys2Proof.Machine

/-! ### The receivers, one equation per FSM state -/

theorem sbusReceive_of_undefined (p : Params) (now : Word) (b : Byte) {D : SbusDecoder}
    (h : D.st = .undefined) : sbusReceive p now b D = .quiet (sbusHunt p b D.clearGap) := by
  unfold sbusReceive
  rw [h]

theorem sbusReceive_of_gotEnd (p : Params) (now : Word) (b : Byte) {D : SbusDecoder}
    (h : D.st = .gotEnd) : sbusReceive p now b D = .quiet (sbusHunt p b D.clearGap) := by
  unfold sbusReceive
  rw [h]

theorem sbusReceive_of_data (p : Params) (now : Word) (b : Byte) {D : SbusDecoder}
    (h : D.st = .data) : sbusReceive p now b D = .quiet (sbusPayload b D.clearGap) := by
  unfold sbusReceive
  rw [h]

theorem sbusReceive_of_waitEnd (p : Params) (now : Word) (b : Byte) {D : SbusDecoder}
    (h : D.st = .waitEnd) : sbusReceive p now b D =
      if b = p.sbusEnd then .published (sbusPublish p now D.clearGap)
      else .quiet (framingError sbusProtocol D.clearGap) := by
  unfold sbusReceive
  rw [h]

theorem ibusReceive_of_idle (p : Params) (now : Word) (b : Byte) {D : IbusDecoder}
    (h : D.st = .idle) : ibusReceive p now b D = .quiet (ibusHunt p b D.clearGap) := by
  unfold ibusReceive
  rw [h]

theorem ibusReceive_of_hdr (p : Params) (now : Word) (b : Byte) {D : IbusDecoder}
    (h : D.st = .hdr) : ibusReceive p now b D = .quiet (ibusHeader p b D.clearGap) := by
  unfold ibusReceive
  rw [h]

theorem ibusReceive_of_data (p : Params) (now : Word) (b : Byte) {D : IbusDecoder}
    (h : D.st = .data) : ibusReceive p now b D = ibusJudge p now (ibusStore b D.clearGap) := by
  unfold ibusReceive
  rw [h]

theorem crsfReceive_of_sync (p : Params) (now : Word) (b : Byte) {D : CrsfDecoder} (m : Mirror)
    (h : D.st = .sync) : crsfReceive p now b D m = .quiet ⟨crsfHunt p b D.clearGap, m⟩ := by
  unfold crsfReceive
  rw [h]

theorem crsfReceive_of_len (p : Params) (now : Word) (b : Byte) {D : CrsfDecoder} (m : Mirror)
    (h : D.st = .len) : crsfReceive p now b D m = .quiet ⟨crsfLength p b D.clearGap, m⟩ := by
  unfold crsfReceive
  rw [h]

theorem crsfReceive_of_data (p : Params) (now : Word) (b : Byte) {D : CrsfDecoder} (m : Mirror)
    (h : D.st = .data) :
    crsfReceive p now b D m = crsfJudge p now b (crsfStore p b D.clearGap) m := by
  unfold crsfReceive
  rw [h]

theorem sumdReceive_of_sync (p : Params) (now : Word) (b : Byte) {D : SumdDecoder}
    (h : D.st = .sync) : sumdReceive p now b D = .quiet (sumdHunt p b D.clearGap) := by
  unfold sumdReceive
  rw [h]

theorem sumdReceive_of_status (p : Params) (now : Word) (b : Byte) {D : SumdDecoder}
    (h : D.st = .status) : sumdReceive p now b D = .quiet (sumdStatus p b D.clearGap) := by
  unfold sumdReceive
  rw [h]

theorem sumdReceive_of_count (p : Params) (now : Word) (b : Byte) {D : SumdDecoder}
    (h : D.st = .count) : sumdReceive p now b D = .quiet (sumdCount p b D.clearGap) := by
  unfold sumdReceive
  rw [h]

theorem sumdReceive_of_data (p : Params) (now : Word) (b : Byte) {D : SumdDecoder}
    (h : D.st = .data) :
    sumdReceive p now b D = sumdJudge p now (sumdStore p b D.clearGap) := by
  unfold sumdReceive
  rw [h]

/-- The response bits kept and the decoder replaced by an image of it. -/
def Received.map {α β : Type} (f : α → β) (r : Received α) : Received β :=
  { decoder := f r.decoder, frame := r.frame, pub := r.pub }

@[simp] theorem Received.map_quiet {α β : Type} (f : α → β) (D : α) :
    (Received.quiet D).map f = .quiet (f D) := rfl

@[simp] theorem Received.map_published {α β : Type} (f : α → β) (D : α) :
    (Received.published D).map f = .published (f D) := rfl

@[simp] theorem Received.map_frameOnly {α β : Type} (f : α → β) (D : α) :
    (Received.frameOnly D).map f = .frameOnly (f D) := rfl

/-- Equal images carry equal decoder images and equal responses. -/
theorem Received.map_eq {α β : Type} {f : α → β} {r q : Received α} (h : r.map f = q.map f) :
    f r.decoder = f q.decoder ∧ r.resp = q.resp := by
  obtain ⟨hd, hf, hp⟩ := (Received.mk.injEq ..).mp h
  exact ⟨hd, by unfold Received.resp; rw [hf, hp]⟩

/-! ### Erasing the bookkeeping of a decoder

Every test in the operations below reads other fields, so the two sides branch alike; `apply_ite`
brings the branches to the top. -/

section
variable {σ : Type} {n cap : Nat}

theorem framingError_sansBooks (P : Protocol σ) (D : Decoder σ n cap) :
    (framingError P D.sansBooks).sansBooks = (framingError P D).sansBooks := rfl

theorem checksumError_sansBooks (P : Protocol σ) (D : Decoder σ n cap) :
    (checksumError P D.sansBooks).sansBooks = (checksumError P D).sansBooks := rfl

theorem publish_sansBooks (now : Word) (vals : List Half) (cls : List ChanClass) (fl : BitVec 4)
    (D : Decoder σ n cap) :
    (publish now vals cls fl D.sansBooks).sansBooks = (publish now vals cls fl D).sansBooks := by
  unfold publish Decoder.putBank Decoder.sansBooks
  dsimp only
  split <;> rfl

theorem gapStep_sansBooks (P : Protocol σ) (p : Params) (D : Decoder σ n cap) :
    (gapStep P p D.sansBooks).sansBooks = (gapStep P p D).sansBooks := by
  simp only [gapStep, apply_ite Decoder.sansBooks]
  rfl

theorem staleStep_sansBooks (P : Protocol σ) (p : Params) (D : Decoder σ n cap) :
    (staleStep P p D.sansBooks).sansBooks = (staleStep P p D).sansBooks := by
  simp only [staleStep, apply_ite Decoder.sansBooks]
  rfl

theorem tickDecoder_sansBooks (P : Protocol σ) (p : Params) (D : Decoder σ n cap) :
    (tickDecoder P p D.sansBooks).sansBooks = (tickDecoder P p D).sansBooks := by
  unfold tickDecoder
  rw [← staleStep_sansBooks, gapStep_sansBooks, staleStep_sansBooks]

/-- Only STATUS and COUNTS show bookkeeping (R44, R46). -/
theorem readCommon_sansBooks (P : Protocol σ) (D : Decoder σ n cap) {a : Byte}
    (hStatus : a ≠ 0x20) (hCounts : a ≠ 0x22) :
    readCommon P D.sansBooks a = readCommon P D a := by
  simp only [readCommon, if_neg hStatus, if_neg hCounts]
  rfl

end

theorem readCrsf_sansBooks (D : CrsfDecoder) (m : Mirror) {a : Byte}
    (hStatus : a ≠ 0x20) (hCounts : a ≠ 0x22) :
    readCrsf D.sansBooks m a = readCrsf D m a := by
  simp only [readCrsf, readCommon_sansBooks _ D hStatus hCounts]

/-! ### A received byte -/

theorem sbusHunt_sansBooks (p : Params) (b : Byte) (D : SbusDecoder) :
    (sbusHunt p b D.sansBooks).sansBooks = (sbusHunt p b D).sansBooks := by
  simp only [sbusHunt, apply_ite Decoder.sansBooks]
  rfl

theorem sbusPublish_sansBooks (p : Params) (now : Word) (D : SbusDecoder) :
    (sbusPublish p now D.sansBooks).sansBooks = (sbusPublish p now D).sansBooks :=
  congrArg (fun E : SbusDecoder => ({ E with st := .gotEnd, idx := 0 } : SbusDecoder))
    (publish_sansBooks now (sbusDecode D) ((sbusDecode D).map (sbusClass p)) (sbusFlags D) D)

theorem sbusReceive_sansBooks (p : Params) (now : Word) (b : Byte) (D : SbusDecoder) :
    (sbusReceive p now b D.sansBooks).map Decoder.sansBooks =
      (sbusReceive p now b D).map Decoder.sansBooks := by
  cases hst : D.st with
  | undefined =>
    rw [sbusReceive_of_undefined p now b hst,
      sbusReceive_of_undefined p now b (D := D.sansBooks) hst]
    exact congrArg Received.quiet (sbusHunt_sansBooks p b D.clearGap)
  | data =>
    rw [sbusReceive_of_data p now b hst, sbusReceive_of_data p now b (D := D.sansBooks) hst]
    rfl
  | waitEnd =>
    rw [sbusReceive_of_waitEnd p now b hst,
      sbusReceive_of_waitEnd p now b (D := D.sansBooks) hst]
    by_cases hb : b = p.sbusEnd
    · rw [if_pos hb, if_pos hb]
      exact congrArg Received.published (sbusPublish_sansBooks p now D.clearGap)
    · rw [if_neg hb, if_neg hb]
      rfl
  | gotEnd =>
    rw [sbusReceive_of_gotEnd p now b hst, sbusReceive_of_gotEnd p now b (D := D.sansBooks) hst]
    exact congrArg Received.quiet (sbusHunt_sansBooks p b D.clearGap)

theorem ibusHunt_sansBooks (p : Params) (b : Byte) (D : IbusDecoder) :
    (ibusHunt p b D.sansBooks).sansBooks = (ibusHunt p b D).sansBooks := by
  simp only [ibusHunt, apply_ite Decoder.sansBooks]
  rfl

theorem ibusHeader_sansBooks (p : Params) (b : Byte) (D : IbusDecoder) :
    (ibusHeader p b D.sansBooks).sansBooks = (ibusHeader p b D).sansBooks := by
  simp only [ibusHeader, apply_ite Decoder.sansBooks]
  rfl

theorem ibusPublish_sansBooks (p : Params) (now : Word) (D : IbusDecoder) :
    (ibusPublish p now D.sansBooks).sansBooks = (ibusPublish p now D).sansBooks :=
  congrArg (fun E : IbusDecoder => ({ E with st := .idle, idx := 0 } : IbusDecoder))
    (publish_sansBooks now (ibusDecode p D) ((ibusDecode p D).map (ibusClass p)) 0 D)

theorem ibusJudge_sansBooks (p : Params) (now : Word) (D : IbusDecoder) :
    (ibusJudge p now D.sansBooks).map Decoder.sansBooks =
      (ibusJudge p now D).map Decoder.sansBooks := by
  simp only [ibusJudge, apply_ite (Received.map Decoder.sansBooks), Received.map_published,
    Received.map_quiet, ibusPublish_sansBooks, checksumError_sansBooks]
  rfl

theorem ibusReceive_sansBooks (p : Params) (now : Word) (b : Byte) (D : IbusDecoder) :
    (ibusReceive p now b D.sansBooks).map Decoder.sansBooks =
      (ibusReceive p now b D).map Decoder.sansBooks := by
  cases hst : D.st with
  | idle =>
    rw [ibusReceive_of_idle p now b hst, ibusReceive_of_idle p now b (D := D.sansBooks) hst]
    exact congrArg Received.quiet (ibusHunt_sansBooks p b D.clearGap)
  | hdr =>
    rw [ibusReceive_of_hdr p now b hst, ibusReceive_of_hdr p now b (D := D.sansBooks) hst]
    exact congrArg Received.quiet (ibusHeader_sansBooks p b D.clearGap)
  | data =>
    rw [ibusReceive_of_data p now b hst, ibusReceive_of_data p now b (D := D.sansBooks) hst]
    exact ibusJudge_sansBooks p now (ibusStore b D.clearGap)

/-- A CRSF unit without the bookkeeping of its decoder. -/
def CrsfUnit.sansBooks (U : CrsfUnit) : CrsfUnit := { U with decoder := U.decoder.sansBooks }

theorem crsfHunt_sansBooks (p : Params) (b : Byte) (D : CrsfDecoder) :
    (crsfHunt p b D.sansBooks).sansBooks = (crsfHunt p b D).sansBooks := by
  simp only [crsfHunt, apply_ite Decoder.sansBooks]
  rfl

theorem crsfLength_sansBooks (p : Params) (b : Byte) (D : CrsfDecoder) :
    (crsfLength p b D.sansBooks).sansBooks = (crsfLength p b D).sansBooks := by
  simp only [crsfLength, apply_ite Decoder.sansBooks]
  rfl

theorem crsfDeliver_sansBooks (p : Params) (now : Word) (len : Byte) (D : CrsfDecoder) :
    (crsfDeliver p now len D.sansBooks).map Decoder.sansBooks =
      (crsfDeliver p now len D).map Decoder.sansBooks := by
  simp only [crsfDeliver, apply_ite (Received.map Decoder.sansBooks), Received.map_published,
    Received.map_frameOnly, crsfPublish, publish_sansBooks, framingError_sansBooks]
  rfl

theorem crsfJudge_sansBooks (p : Params) (now : Word) (b : Byte) (D : CrsfDecoder) (m : Mirror) :
    (crsfJudge p now b D.sansBooks m).map CrsfUnit.sansBooks =
      (crsfJudge p now b D m).map CrsfUnit.sansBooks := by
  unfold crsfJudge
  by_cases hlast : D.idx = D.exp
  · by_cases hcrc : lowByte D.acc = b
    · rw [if_pos hlast, if_pos hcrc, if_pos (show D.sansBooks.idx = D.sansBooks.exp from hlast),
        if_pos (show lowByte D.sansBooks.acc = b from hcrc)]
      exact congrArg (fun r => Received.mk (CrsfUnit.mk r.decoder (mirrorOf p D)) r.frame r.pub)
        (crsfDeliver_sansBooks p now D.exp { D with st := .sync, idx := 0, exp := 0 })
    · rw [if_pos hlast, if_neg hcrc, if_pos (show D.sansBooks.idx = D.sansBooks.exp from hlast),
        if_neg (show lowByte D.sansBooks.acc ≠ b from hcrc)]
      rfl
  · rw [if_neg hlast, if_neg (show D.sansBooks.idx ≠ D.sansBooks.exp from hlast)]
    rfl

theorem crsfReceive_sansBooks (p : Params) (now : Word) (b : Byte) (D : CrsfDecoder) (m : Mirror) :
    (crsfReceive p now b D.sansBooks m).map CrsfUnit.sansBooks =
      (crsfReceive p now b D m).map CrsfUnit.sansBooks := by
  cases hst : D.st with
  | sync =>
    rw [crsfReceive_of_sync p now b m hst, crsfReceive_of_sync p now b (D := D.sansBooks) m hst]
    exact congrArg (fun E => Received.quiet (CrsfUnit.mk E m)) (crsfHunt_sansBooks p b D.clearGap)
  | len =>
    rw [crsfReceive_of_len p now b m hst, crsfReceive_of_len p now b (D := D.sansBooks) m hst]
    exact congrArg (fun E => Received.quiet (CrsfUnit.mk E m)) (crsfLength_sansBooks p b D.clearGap)
  | data =>
    rw [crsfReceive_of_data p now b m hst, crsfReceive_of_data p now b (D := D.sansBooks) m hst]
    exact crsfJudge_sansBooks p now b (crsfStore p b D.clearGap) m

theorem sumdHunt_sansBooks (p : Params) (b : Byte) (D : SumdDecoder) :
    (sumdHunt p b D.sansBooks).sansBooks = (sumdHunt p b D).sansBooks := by
  simp only [sumdHunt, apply_ite Decoder.sansBooks]
  rfl

theorem sumdStatus_sansBooks (p : Params) (b : Byte) (D : SumdDecoder) :
    (sumdStatus p b D.sansBooks).sansBooks = (sumdStatus p b D).sansBooks := by
  simp only [sumdStatus, apply_ite Decoder.sansBooks]
  rfl

theorem sumdCount_sansBooks (p : Params) (b : Byte) (D : SumdDecoder) :
    (sumdCount p b D.sansBooks).sansBooks = (sumdCount p b D).sansBooks := by
  simp only [sumdCount, apply_ite Decoder.sansBooks]
  rfl

theorem sumdPublish_sansBooks (p : Params) (now : Word) (k : Nat) (D : SumdDecoder) :
    (sumdPublish p now k D.sansBooks).sansBooks = (sumdPublish p now k D).sansBooks :=
  congrArg (fun E : SumdDecoder => ({ E with st := .sync, idx := 0, exp := 0 } : SumdDecoder))
    (publish_sansBooks now (sumdDecode k D) ((sumdDecode k D).map (sumdClass p)) (sumdFlags p D) D)

theorem sumdJudge_sansBooks (p : Params) (now : Word) (D : SumdDecoder) :
    (sumdJudge p now D.sansBooks).map Decoder.sansBooks =
      (sumdJudge p now D).map Decoder.sansBooks := by
  simp only [sumdJudge, apply_ite (Received.map Decoder.sansBooks), Received.map_published,
    Received.map_quiet, sumdPublish_sansBooks, checksumError_sansBooks]
  rfl

theorem sumdReceive_sansBooks (p : Params) (now : Word) (b : Byte) (D : SumdDecoder) :
    (sumdReceive p now b D.sansBooks).map Decoder.sansBooks =
      (sumdReceive p now b D).map Decoder.sansBooks := by
  cases hst : D.st with
  | sync =>
    rw [sumdReceive_of_sync p now b hst, sumdReceive_of_sync p now b (D := D.sansBooks) hst]
    exact congrArg Received.quiet (sumdHunt_sansBooks p b D.clearGap)
  | status =>
    rw [sumdReceive_of_status p now b hst, sumdReceive_of_status p now b (D := D.sansBooks) hst]
    exact congrArg Received.quiet (sumdStatus_sansBooks p b D.clearGap)
  | count =>
    rw [sumdReceive_of_count p now b hst, sumdReceive_of_count p now b (D := D.sansBooks) hst]
    exact congrArg Received.quiet (sumdCount_sansBooks p b D.clearGap)
  | data =>
    rw [sumdReceive_of_data p now b hst, sumdReceive_of_data p now b (D := D.sansBooks) hst]
    exact sumdJudge_sansBooks p now (sumdStore p b D.clearGap)

/-! ### The whole block -/

theorem State.setSbus_sansBooks (s : State) {D E : SbusDecoder} (r q : Response)
    (h : D.sansBooks = E.sansBooks) :
    ((s.sansBooks.setSbus D).setResp r).sansBooks = ((s.setSbus E).setResp q).sansBooks :=
  congrArg s.sansBooks.setSbus h

theorem State.setIbus_sansBooks (s : State) {D E : IbusDecoder} (r q : Response)
    (h : D.sansBooks = E.sansBooks) :
    ((s.sansBooks.setIbus D).setResp r).sansBooks = ((s.setIbus E).setResp q).sansBooks :=
  congrArg s.sansBooks.setIbus h

theorem State.setCrsf_setMirror_sansBooks (s : State) {U V : CrsfUnit} (r q : Response)
    (h : U.sansBooks = V.sansBooks) :
    (((s.sansBooks.setCrsf U.decoder).setMirror U.mirror).setResp r).sansBooks =
      (((s.setCrsf V.decoder).setMirror V.mirror).setResp q).sansBooks :=
  congrArg (fun W : CrsfUnit => (s.sansBooks.setCrsf W.decoder).setMirror W.mirror) h

theorem State.setSumd_sansBooks (s : State) {D E : SumdDecoder} (r q : Response)
    (h : D.sansBooks = E.sansBooks) :
    ((s.sansBooks.setSumd D).setResp r).sansBooks = ((s.setSumd E).setResp q).sansBooks :=
  congrArg s.sansBooks.setSumd h

theorem State.advance_sansBooks (s : State) (r q : Response) :
    (s.sansBooks.advance.setResp r).sansBooks = (s.advance.setResp q).sansBooks := by
  simp only [State.sansBooks, State.setResp, State.advance, tickDecoder_sansBooks]

/-- What a command does to a state and to the same state without bookkeeping: it answers next states
that agree without bookkeeping, and the same response unless it shows bookkeeping. -/
def BooksIgnored (i : Instr) (s : State) : Prop :=
  ∃ t u, exec i s = .next t ∧ exec i s.sansBooks = .next u ∧ u.sansBooks = t.sansBooks ∧
    (showsBooks i = false → u.resp = t.resp)

/-- A read of the read map of a decoder, whose reads but those of STATUS and COUNTS show no
bookkeeping. -/
theorem readAnswer_booksIgnored {i : Instr} {s : State} {a : Byte} {o o' : Option Word}
    (hi : exec i s = .next (s.setResp (readAnswer o)))
    (hi' : exec i s.sansBooks = .next (s.sansBooks.setResp (readAnswer o')))
    (hshow : showsBooks i = (decide (a = 0x20) || decide (a = 0x22)))
    (hread : a ≠ 0x20 → a ≠ 0x22 → o' = o) : BooksIgnored i s := by
  refine ⟨_, _, hi, hi', rfl, fun hs => ?_⟩
  rw [hshow, Bool.or_eq_false_iff, decide_eq_false_iff_not, decide_eq_false_iff_not] at hs
  exact congrArg readAnswer (hread hs.1 hs.2)

/-- Every command ignores the bookkeeping. -/
theorem exec_booksIgnored (i : Instr) (s : State) : BooksIgnored i s := by
  cases i with
  | rxSbus b =>
    obtain ⟨hD, hr⟩ := Received.map_eq (sbusReceive_sansBooks s.params s.ticks b s.sbus)
    exact ⟨_, _, rfl, rfl, s.setSbus_sansBooks _ _ hD, fun _ => hr⟩
  | rxIbus b =>
    obtain ⟨hD, hr⟩ := Received.map_eq (ibusReceive_sansBooks s.params s.ticks b s.ibus)
    exact ⟨_, _, rfl, rfl, s.setIbus_sansBooks _ _ hD, fun _ => hr⟩
  | rxCrsf b =>
    obtain ⟨hU, hr⟩ := Received.map_eq (crsfReceive_sansBooks s.params s.ticks b s.crsf s.mirror)
    exact ⟨_, _, rfl, rfl, s.setCrsf_setMirror_sansBooks _ _ hU, fun _ => hr⟩
  | rxSumd b =>
    obtain ⟨hD, hr⟩ := Received.map_eq (sumdReceive_sansBooks s.params s.ticks b s.sumd)
    exact ⟨_, _, rfl, rfl, s.setSumd_sansBooks _ _ hD, fun _ => hr⟩
  | tick => exact ⟨_, _, rfl, rfl, s.advance_sansBooks _ _, fun _ => rfl⟩
  | rdSbus a =>
    exact readAnswer_booksIgnored (exec_rdSbus a s) (exec_rdSbus a _) rfl
      fun h h' => readCommon_sansBooks _ _ h h'
  | rdIbus a =>
    exact readAnswer_booksIgnored (exec_rdIbus a s) (exec_rdIbus a _) rfl
      fun h h' => readCommon_sansBooks _ _ h h'
  | rdCrsf a =>
    exact readAnswer_booksIgnored (exec_rdCrsf a s) (exec_rdCrsf a _) rfl
      fun h h' => readCrsf_sansBooks _ _ h h'
  | rdSumd a =>
    exact readAnswer_booksIgnored (exec_rdSumd a s) (exec_rdSumd a _) rfl
      fun h h' => readCommon_sansBooks _ _ h h'
  | _ => exact ⟨_, _, rfl, rfl, rfl, fun _ => rfl⟩

/-- Settles O35: both states run as the one state they are without bookkeeping. -/
theorem bookkeepingChangesNoOutcome : Obligations.BookkeepingChangesNoOutcome := by
  intro i s t h
  obtain ⟨s', u, hs, hu, hbooks, hresp⟩ := exec_booksIgnored i s
  obtain ⟨t', v, ht, hv, hbooks', hresp'⟩ := exec_booksIgnored i t
  rw [h, hv, Host.Outcome.next.injEq] at hu
  subst hu
  exact ⟨s', t', hs, ht, hbooks.symm.trans hbooks', fun hi => (hresp hi).symm.trans (hresp' hi)⟩

end Sys2Proof.Machine
end

section
/-! SUPPORT. The Channel Store of a decoder (R35, R74 to R77): every operation but Publish and the
staleness timer keeps it, and a received byte either keeps it or publishes one frame. -/

namespace Sys2Proof.Machine

section
variable {σ : Type} {n cap : Nat}

/-! ### The same store -/

theorem Decoder.SameStore.refl (D : Decoder σ n cap) : D.SameStore D :=
  ⟨rfl, rfl, rfl, rfl, rfl, rfl, rfl, rfl⟩

theorem framingError_sameStore (P : Protocol σ) (D : Decoder σ n cap) :
    (framingError P D).SameStore D := .refl _

theorem gapStep_sameStore (P : Protocol σ) (p : Params) (D : Decoder σ n cap) :
    (gapStep P p D).SameStore D := by
  rcases gapStep_cases P p D with ⟨-, e⟩ | ⟨-, -, e⟩ | ⟨-, -, -, e⟩ | ⟨-, -, -, e⟩ <;> rw [e] <;>
    exact .refl _

/-- A Publish writes the store from the store alone (R76). -/
theorem publish_sameStore_congr (now : Word) (vals : List Half) (cls : List ChanClass)
    (fl : BitVec 4) {D E : Decoder σ n cap} (h : D.SameStore E) :
    (publish now vals cls fl D).SameStore (publish now vals cls fl E) := by
  obtain ⟨hbank0, hbank1, hact, -, -, -, -, hframes⟩ := h
  unfold publish Decoder.putBank
  rw [hact, hframes]
  cases E.act <;> simp [Decoder.SameStore, hbank0, hbank1]

/-- The banks after a Publish: the visible one is kept, the other one is loaded. -/
theorem publish_bank (now : Word) (vals : List Half) (cls : List ChanClass) (fl : BitVec 4)
    (D : Decoder σ n cap) (b : Bool) : (publish now vals cls fl D).bank b =
      if b = D.act then D.bank b else (D.bank b).load vals cls fl := by
  cases hact : D.act <;> cases b <;> simp [publish, Decoder.putBank, Decoder.bank, hact]

/-! ### What a command may do to a store -/

theorem StoreKept.of_sameStore {timed mine : Prop} {resp : Response} {now : Word}
    {D E : Decoder σ n cap} (h : E.SameStore D) : StoreKept timed mine resp now D E := by
  obtain ⟨hbank0, hbank1, hact, hvalid, hhas, hage, hstamp, hframes⟩ := h
  exact .inl ⟨hbank0, hbank1, hact, hhas, hstamp, hframes, fun _ => ⟨hvalid, hage⟩⟩

theorem StoreKept.of_publish {timed mine : Prop} {resp : Response} {now : Word}
    {vals : List Half} {cls : List ChanClass} {fl : BitVec 4} {D E : Decoder σ n cap}
    (hmine : mine) (hresp : resp = respOk 3)
    (h : E.SameStore (publish now vals cls fl D)) : StoreKept timed mine resp now D E := by
  obtain ⟨hbank0, hbank1, hact, hvalid, hhas, hage, hstamp, hframes⟩ := h
  refine .inr ⟨hmine, hresp, hact, ?_, hvalid, hhas, hage, hstamp, hframes⟩
  rw [← publish_old_bank now vals cls fl D]
  unfold Decoder.bank
  rw [hbank0, hbank1]

/-- A TICK keeps the store but for `VALID` and `AGE` (R403). -/
theorem StoreKept.of_tick {timed mine : Prop} (htimed : timed) (resp : Response) (now : Word)
    (P : Protocol σ) (p : Params) (D : Decoder σ n cap) :
    StoreKept timed mine resp now D (tickDecoder P p D) := by
  obtain ⟨hbank0, hbank1, hact, -, hhas, -, hstamp, hframes⟩ := gapStep_sameStore P p D
  unfold tickDecoder
  rcases staleStep_cases P p (gapStep P p D) with ⟨-, e⟩ | ⟨-, -, -, e⟩ | ⟨-, -, -, e⟩ <;> rw [e] <;>
    exact .inl ⟨hbank0, hbank1, hact, hhas, hstamp, hframes, fun h => absurd htimed h⟩

/-- What a received byte does to the Channel Store of its decoder: nothing, or it publishes a frame
whose values and flags are as the protocol has them, and answers PUB. -/
def Publishes (now : Word) (classify : Half → ChanClass) (okVals : List Half → Prop)
    (okFlags : BitVec 4 → Prop) (D : Decoder σ n cap) (r : Received (Decoder σ n cap)) : Prop :=
  r.decoder.SameStore D ∨
  (r.resp = respOk 3 ∧ ∃ vals fl, okVals vals ∧ okFlags fl ∧
    r.decoder.SameStore (publish now vals (vals.map classify) fl D))

theorem Publishes.storeKept {timed mine : Prop} {now : Word} {classify : Half → ChanClass}
    {okVals : List Half → Prop} {okFlags : BitVec 4 → Prop} {D : Decoder σ n cap}
    {r : Received (Decoder σ n cap)} (h : Publishes now classify okVals okFlags D r) (hmine : mine) :
    StoreKept timed mine r.resp now D r.decoder := by
  rcases h with h | ⟨hresp, vals, fl, -, -, h⟩
  · exact .of_sameStore h
  · exact .of_publish hmine hresp h

end

/-! ### The values and flags of the protocols -/

/-- Sixteen values of 11 bits: the channels of an SBus or a CRSF frame (R78, R201, R285). -/
def SixteenElevenBit (vals : List Half) : Prop := vals.length = 16 ∧ ∀ v ∈ vals, v.toNat < 2048

theorem unpack11_sixteenElevenBit (bytes : List Byte) : SixteenElevenBit (unpack11 bytes) := by
  refine ⟨by simp [unpack11], fun v hv => ?_⟩
  obtain ⟨k, -, rfl⟩ := List.mem_map.mp hv
  have hlt : leNat bytes >>> (11 * k) &&& 0x7FF < 2 ^ 11 := Nat.and_lt_two_pow _ (by decide)
  rw [BitVec.toNat_ofNat]
  exact lt_of_le_of_lt (Nat.mod_le _ _) hlt

theorem ibusDecode_length (p : Params) (D : IbusDecoder) : (ibusDecode p D).length = 18 := by
  simp [ibusDecode, ibusStandard]

theorem sumdDecode_length (k : Nat) (D : SumdDecoder) : (sumdDecode k D).length = k := by
  simp [sumdDecode]

theorem sumdFlags_low (p : Params) (D : SumdDecoder) : sumdFlags p D &&& 7 = 0 := by
  unfold sumdFlags
  split <;> decide

/-! ### What a received byte does to the store of its decoder -/

theorem sbusHunt_sameStore (p : Params) (b : Byte) (D : SbusDecoder) :
    (sbusHunt p b D).SameStore D := by
  unfold sbusHunt
  split <;> exact .refl _

theorem sbusReceive_publishes (p : Params) (now : Word) (b : Byte) (D : SbusDecoder) :
    Publishes now (sbusClass p) SixteenElevenBit (fun _ => True) D (sbusReceive p now b D) := by
  rcases sbusReceive_cases p now b D with ⟨-, e⟩ | ⟨-, e⟩ | ⟨-, -, e⟩ | ⟨-, -, e⟩ <;> rw [e]
  · exact .inl (sbusHunt_sameStore p b D.clearGap)
  · exact .inl (.refl _)
  · exact .inr ⟨Received.resp_published _, sbusDecode D, sbusFlags D,
      unpack11_sixteenElevenBit _, trivial, publish_sameStore_congr _ _ _ _ (.refl _)⟩
  · exact .inl (framingError_sameStore _ _)

theorem ibusHunt_sameStore (p : Params) (b : Byte) (D : IbusDecoder) :
    (ibusHunt p b D).SameStore D := by
  unfold ibusHunt
  split <;> exact .refl _

theorem ibusHeader_sameStore (p : Params) (b : Byte) (D : IbusDecoder) :
    (ibusHeader p b D).SameStore D := by
  unfold ibusHeader
  split <;> exact .refl _

theorem ibusStore_sameStore (b : Byte) (D : IbusDecoder) : (ibusStore b D).SameStore D := .refl _

theorem ibusReceive_publishes (p : Params) (now : Word) (b : Byte) (D : IbusDecoder) :
    Publishes now (ibusClass p) (fun vals => vals.length = 18) (fun fl => fl = 0) D
      (ibusReceive p now b D) := by
  rcases ibusReceive_cases p now b D with ⟨-, e⟩ | ⟨-, e⟩ | ⟨-, -, e⟩ | ⟨-, -, -, e⟩ | ⟨-, -, -, e⟩ <;>
    rw [e]
  · exact .inl (ibusHunt_sameStore p b D.clearGap)
  · exact .inl (ibusHeader_sameStore p b D.clearGap)
  · exact .inl (ibusStore_sameStore b D.clearGap)
  · exact .inr ⟨Received.resp_published _, ibusDecode p (ibusStore b D.clearGap), 0,
      ibusDecode_length p _, rfl,
      publish_sameStore_congr _ _ _ _ (ibusStore_sameStore b D.clearGap)⟩
  · exact .inl (ibusStore_sameStore b D.clearGap)

theorem crsfHunt_sameStore (p : Params) (b : Byte) (D : CrsfDecoder) :
    (crsfHunt p b D).SameStore D := by
  unfold crsfHunt
  split <;> exact .refl _

theorem crsfLength_sameStore (p : Params) (b : Byte) (D : CrsfDecoder) :
    (crsfLength p b D).SameStore D := by
  unfold crsfLength
  split <;> exact .refl _

theorem crsfStore_sameStore (p : Params) (b : Byte) (D : CrsfDecoder) :
    (crsfStore p b D).SameStore D := .refl _

theorem crsfReceive_publishes (p : Params) (now : Word) (b : Byte) (D : CrsfDecoder) (m : Mirror) :
    Publishes now (crsfClass p) SixteenElevenBit (fun fl => fl = 0) D
      ((crsfReceive p now b D m).map CrsfUnit.decoder) := by
  have hstore : (crsfStore p b D.clearGap).SameStore D := crsfStore_sameStore p b D.clearGap
  rcases crsfReceive_cases p now b D m with
    ⟨-, e⟩ | ⟨-, e⟩ | ⟨-, -, e⟩ | ⟨-, -, E, F, rfl, rfl, hlast⟩
  · rw [e]
    exact .inl (crsfHunt_sameStore p b D.clearGap)
  · rw [e]
    exact .inl (crsfLength_sameStore p b D.clearGap)
  · rw [e]
    exact .inl hstore
  · rcases hlast with ⟨-, e⟩ | ⟨-, -, -, e⟩ | ⟨-, -, -, e⟩ | ⟨-, -, e⟩ <;> rw [e]
    · exact .inl hstore
    · exact .inr ⟨Received.resp_published _, crsfDecode _, 0, unpack11_sixteenElevenBit _, rfl,
        publish_sameStore_congr _ _ _ _ hstore⟩
    · exact .inl hstore
    · exact .inl hstore

theorem sumdHunt_sameStore (p : Params) (b : Byte) (D : SumdDecoder) :
    (sumdHunt p b D).SameStore D := by
  unfold sumdHunt
  split <;> exact .refl _

theorem sumdStatus_sameStore (p : Params) (b : Byte) (D : SumdDecoder) :
    (sumdStatus p b D).SameStore D := by
  unfold sumdStatus
  split <;> exact .refl _

theorem sumdCount_sameStore (p : Params) (b : Byte) (D : SumdDecoder) :
    (sumdCount p b D).SameStore D := by
  unfold sumdCount
  split <;> exact .refl _

theorem sumdStore_sameStore (p : Params) (b : Byte) (D : SumdDecoder) :
    (sumdStore p b D).SameStore D := .refl _

theorem sumdReceive_publishes (p : Params) (now : Word) (b : Byte) (D : SumdDecoder) :
    Publishes now (sumdClass p) (fun vals => D.st = .data ∧ vals.length = D.exp.toNat)
      (fun fl => fl &&& 7 = 0) D (sumdReceive p now b D) := by
  have hstore : (sumdStore p b D.clearGap).SameStore D := sumdStore_sameStore p b D.clearGap
  rcases sumdReceive_cases p now b D with ⟨-, e⟩ | ⟨-, e⟩ | ⟨-, e⟩ | ⟨hst, E, rfl, hlast⟩
  · rw [e]
    exact .inl (sumdHunt_sameStore p b D.clearGap)
  · rw [e]
    exact .inl (sumdStatus_sameStore p b D.clearGap)
  · rw [e]
    exact .inl (sumdCount_sameStore p b D.clearGap)
  · rcases hlast with ⟨-, e⟩ | ⟨-, -, e⟩ | ⟨-, -, e⟩ <;> rw [e]
    · exact .inl hstore
    · exact .inr ⟨Received.resp_published _, sumdDecode D.exp.toNat _, sumdFlags p _,
        ⟨hst, sumdDecode_length _ _⟩, sumdFlags_low p _, publish_sameStore_congr _ _ _ _ hstore⟩
    · exact .inl hstore

/-! ### Every command -/

/-- A decoder a command does not act on keeps its store. -/
theorem StoreKept.refl {σ : Type} {n cap : Nat} {timed mine : Prop} {resp : Response} {now : Word}
    (D : Decoder σ n cap) : StoreKept timed mine resp now D D := .of_sameStore (.refl D)

/-- Settles O33: the decoder a byte is for by the `Publishes` lemma of its receiver, the timers of a
TICK by `StoreKept.of_tick`; every other decoder of every other command keeps its store. -/
theorem onlyPublishWritesTheStore : Obligations.OnlyPublishWritesTheStore := by
  intro i s t h hreset
  cases i with
  | rxSbus b =>
    cases h
    exact ⟨(sbusReceive_publishes s.params s.ticks b s.sbus).storeKept ⟨b, rfl⟩,
      .refl _, .refl _, .refl _⟩
  | rxIbus b =>
    cases h
    exact ⟨.refl _, (ibusReceive_publishes s.params s.ticks b s.ibus).storeKept ⟨b, rfl⟩,
      .refl _, .refl _⟩
  | rxCrsf b =>
    cases h
    exact ⟨.refl _, .refl _,
      (crsfReceive_publishes s.params s.ticks b s.crsf s.mirror).storeKept ⟨b, rfl⟩, .refl _⟩
  | rxSumd b =>
    cases h
    exact ⟨.refl _, .refl _, .refl _,
      (sumdReceive_publishes s.params s.ticks b s.sumd).storeKept ⟨b, rfl⟩⟩
  | tick =>
    cases h
    exact ⟨.of_tick rfl _ _ _ _ _, .of_tick rfl _ _ _ _ _, .of_tick rfl _ _ _ _ _,
      .of_tick rfl _ _ _ _ _⟩
  | reset => exact absurd rfl hreset
  | _ =>
    simp at h
    subst h
    exact ⟨.refl _, .refl _, .refl _, .refl _⟩

end Sys2Proof.Machine
end

section
/-! SUPPORT. What the operations shared by the decoders keep: the timers within their timeouts (R402,
R403, R405), and every channel of a bank marked with the class of its value (R202, R247, R289, R335). -/

namespace Sys2Proof.Machine

section
variable {σ : Type} {n cap : Nat}

/-! ### The timers -/

/-- The timers stay legal when the gap is cleared and the store kept. -/
theorem Decoder.TimersOk.of_sameStore {P : Protocol σ} {p : Params} {D E : Decoder σ n cap}
    (h : D.TimersOk P p) (hgap : E.gap = 0) (hs : E.SameStore D) : E.TimersOk P p := by
  obtain ⟨-, -, hvalid, hstale, hnone⟩ := h
  obtain ⟨-, -, -, evalid, ehas, eage, estamp, eframes⟩ := hs
  unfold Decoder.TimersOk
  rw [evalid, ehas, eage, estamp, eframes]
  exact ⟨fun _ => hgap, .inl hgap, hvalid, hstale, hnone⟩

/-- The timers are legal right after a Publish. -/
theorem Decoder.TimersOk.of_publish {P : Protocol σ} {p : Params} {now : Word} {vals : List Half}
    {cls : List ChanClass} {fl : BitVec 4} {D E : Decoder σ n cap} (hgap : E.gap = 0)
    (hs : E.SameStore (publish now vals cls fl D)) : E.TimersOk P p := by
  obtain ⟨-, -, -, evalid, ehas, eage, -, -⟩ := hs
  have hvalid : E.valid = true := evalid
  have hhas : E.has = true := ehas
  exact ⟨fun _ => hgap, .inl hgap, fun _ => ⟨hhas, .inl eage⟩, by simp [hvalid], by simp [hhas]⟩

/-- A timer below its timeout that does not reach it with one more TICK is below it still. -/
theorem succ_lt_of_ne {x limit : Half} (hx : x = 0 ∨ x < limit) (hlimit : limit ≠ 0)
    (hne : x + 1 ≠ limit) : x + 1 < limit := by
  bv_omega

theorem gapStep_timersOk {P : Protocol σ} {p : Params}
    {D : Decoder σ n cap} (h : D.TimersOk P p) : (gapStep P p D).TimersOk P p := by
  rcases gapStep_cases P p D with ⟨-, e⟩ | ⟨-, -, e⟩ | ⟨-, -, -, e⟩ | ⟨hidle, ht, hne, e⟩ <;> rw [e]
  · exact h.of_sameStore rfl (.refl _)
  · exact h
  · exact h.of_sameStore rfl (.refl _)
  · obtain ⟨-, hgap, hstore⟩ := h
    exact ⟨by simp [hidle], .inr (succ_lt_of_ne hgap ht hne), hstore⟩

theorem staleStep_timersOk {P : Protocol σ} {p : Params} {D : Decoder σ n cap}
    (h : D.TimersOk P p) : (staleStep P p D).TimersOk P p := by
  obtain ⟨hidle, hgap, hvalid, hstale, hnone⟩ := h
  rcases staleStep_cases P p D with ⟨-, e⟩ | ⟨hv, ht, ha, e⟩ | ⟨hv, ht, hne, e⟩ <;> rw [e]
  · exact ⟨hidle, hgap, hvalid, hstale, hnone⟩
  · obtain ⟨hhas, -⟩ := hvalid hv
    exact ⟨hidle, hgap, by simp, fun _ _ => ⟨ha, ht⟩, by simp [hhas]⟩
  · obtain ⟨hhas, hage⟩ := hvalid hv
    exact ⟨hidle, hgap, fun _ => ⟨hhas, .inr (succ_lt_of_ne hage ht hne)⟩, by simp [hv],
      by simp [hhas]⟩

theorem tickDecoder_timersOk {P : Protocol σ} {p : Params}
    {D : Decoder σ n cap} (h : D.TimersOk P p) : (tickDecoder P p D).TimersOk P p :=
  staleStep_timersOk (gapStep_timersOk h)

/-- What the timers may do to the rest of a decoder: the byte timeout drops the frame (R454) or the FSM
fields are as they were, and the checksum, the buffer and the banks are untouched. -/
def FrameKeptOrDropped (P : Protocol σ) (D E : Decoder σ n cap) : Prop :=
  ((E.st = D.st ∧ E.idx = D.idx ∧ E.exp = D.exp) ∨ (E.st = P.initial ∧ E.idx = 0 ∧ E.exp = 0)) ∧
  E.acc = D.acc ∧ E.buf = D.buf ∧ E.bank0 = D.bank0 ∧ E.bank1 = D.bank1 ∧ E.act = D.act ∧
  E.has = D.has

theorem gapStep_frame (P : Protocol σ) (p : Params) (D : Decoder σ n cap) :
    FrameKeptOrDropped P D (gapStep P p D) := by
  unfold FrameKeptOrDropped
  rcases gapStep_cases P p D with ⟨-, e⟩ | ⟨-, -, e⟩ | ⟨-, -, -, e⟩ | ⟨-, -, -, e⟩ <;> rw [e] <;> simp

theorem tickDecoder_frame (P : Protocol σ) (p : Params) (D : Decoder σ n cap) :
    FrameKeptOrDropped P D (tickDecoder P p D) := by
  unfold tickDecoder
  rcases staleStep_cases P p (gapStep P p D) with ⟨-, e⟩ | ⟨-, -, -, e⟩ | ⟨-, -, -, e⟩ <;> rw [e] <;>
    exact gapStep_frame P p D

/-! ### The banks -/

theorem Bank.load_cnt_toNat (B : Bank cap) {vals : List Half} (cls : List ChanClass) (fl : BitVec 4)
    (h : vals.length < 64) : (B.load vals cls fl).cnt.toNat = vals.length := by
  rw [Bank.load_cnt, BitVec.toNat_ofNat]
  exact Nat.mod_eq_of_lt h

/-- A channel of a loaded frame has the frame's value and class. -/
theorem Bank.load_at (B : Bank cap) {vals : List Half} (classify : Half → ChanClass)
    (fl : BitVec 4) (hcap : vals.length ≤ cap) {k : Nat} (hk : k < vals.length) :
    (B.load vals (vals.map classify) fl).valueAt k = vals[k] ∧
    (B.load vals (vals.map classify) fl).classAt k = classify vals[k] := by
  rw [Bank.load_valueAt, Bank.load_classAt]
  have hkc : k < cap := lt_of_lt_of_le hk hcap
  simp [hk, hkc]

theorem Bank.Marked.load (B : Bank cap) {vals : List Half} (classify : Half → ChanClass)
    (fl : BitVec 4) (hcap : vals.length ≤ cap) (h64 : vals.length < 64) :
    (B.load vals (vals.map classify) fl).Marked classify := by
  unfold Bank.Marked
  rw [B.load_cnt_toNat _ fl h64]
  refine ⟨hcap, fun k hk => ?_⟩
  obtain ⟨hv, hc⟩ := B.load_at classify fl hcap hk
  rw [hv, hc]

theorem Bank.ElevenBit.load (B : Bank cap) {vals : List Half} (classify : Half → ChanClass)
    (fl : BitVec 4) (hcap : 16 ≤ cap) (hvals : SixteenElevenBit vals) :
    (B.load vals (vals.map classify) fl).ElevenBit := by
  obtain ⟨hlen, hlt⟩ := hvals
  unfold Bank.ElevenBit
  rw [B.load_cnt_toNat _ fl (by omega)]
  intro k hk
  obtain ⟨hv, -⟩ := B.load_at classify fl (by omega) hk
  rw [hv]
  exact hlt _ (List.getElem_mem hk)

/-! ### What a received byte keeps of its decoder's store -/

variable {now : Word} {classify : Half → ChanClass} {okVals : List Half → Prop}
  {okFlags : BitVec 4 → Prop} {D : Decoder σ n cap} {r : Received (Decoder σ n cap)}

theorem Publishes.timersOk {P : Protocol σ} {p : Params}
    (h : Publishes now classify okVals okFlags D r) (hgap : r.decoder.gap = 0)
    (hD : D.TimersOk P p) : r.decoder.TimersOk P p := by
  rcases h with h | ⟨-, vals, fl, -, -, h⟩
  · exact hD.of_sameStore hgap h
  · exact .of_publish hgap h

/-- What holds of both banks, and of every loaded frame, holds of both banks after the byte. -/
theorem Publishes.banks (h : Publishes now classify okVals okFlags D r) {Q : Bank cap → Prop}
    (hload : ∀ B vals fl, okVals vals → okFlags fl → Q (Bank.load B vals (vals.map classify) fl))
    (hbanks : Q D.bank0 ∧ Q D.bank1) : Q r.decoder.bank0 ∧ Q r.decoder.bank1 := by
  rcases h with ⟨hbank0, hbank1, -⟩ | ⟨-, vals, fl, hv, hf, hbank0, hbank1, -⟩
  · rwa [hbank0, hbank1]
  · have hbank : ∀ b, Q ((publish now vals (vals.map classify) fl D).bank b) := by
      intro b
      rw [publish_bank]
      split
      · cases b
        · exact hbanks.1
        · exact hbanks.2
      · exact hload _ _ _ hv hf
    rw [hbank0, hbank1]
    exact ⟨hbank false, hbank true⟩

/-- The same store shows the same frame. -/
theorem Decoder.SameStore.active_eq {D E : Decoder σ n cap} (h : D.SameStore E) :
    D.active = E.active := by
  obtain ⟨hbank0, hbank1, hact, -⟩ := h
  unfold Decoder.active Decoder.bank
  rw [hbank0, hbank1, hact]

theorem Publishes.storeOk {legal : Nat → Prop} (h : Publishes now classify okVals okFlags D r)
    (hvals : ∀ vals, okVals vals → vals.length ≤ cap ∧ vals.length < 64 ∧ legal vals.length)
    (hD : D.StoreOk classify legal) : r.decoder.StoreOk classify legal := by
  obtain ⟨hbank0, hbank1, hfull, hempty⟩ := hD
  obtain ⟨hbank0', hbank1'⟩ := h.banks (Q := Bank.Marked classify)
    (fun B vals fl hv _ => .load B classify fl (hvals vals hv).1 (hvals vals hv).2.1)
    ⟨hbank0, hbank1⟩
  refine ⟨hbank0', hbank1', ?_⟩
  rcases h with h | ⟨-, vals, fl, hv, -, h⟩
  · have hactive := h.active_eq
    obtain ⟨-, -, -, -, hhas, -⟩ := h
    rw [hactive, hhas]
    exact ⟨hfull, hempty⟩
  · obtain ⟨-, h64, hlegal⟩ := hvals vals hv
    have hactive := h.active_eq
    obtain ⟨-, -, -, -, hhas, -⟩ := h
    rw [hactive, hhas, publish_has, publish_active, Bank.load_cnt_toNat _ _ _ h64]
    exact ⟨fun _ => hlegal, nofun⟩

/-- The store marks depend on the banks, the selector and `HAS` alone. -/
theorem Decoder.StoreOk.congr {legal : Nat → Prop} {D E : Decoder σ n cap}
    (hD : D.StoreOk classify legal) (hbank0 : E.bank0 = D.bank0) (hbank1 : E.bank1 = D.bank1)
    (hact : E.act = D.act) (hhas : E.has = D.has) : E.StoreOk classify legal := by
  unfold Decoder.StoreOk Decoder.active Decoder.bank at *
  rwa [hbank0, hbank1, hact, hhas]

end

end Sys2Proof.Machine
end

section
/-! SUPPORT. The SBus decoder keeps its invariant (R200, R204). -/

namespace Sys2Proof.Machine

/-- What `SbusOk` says of the index in each FSM state. -/
def SbusPhase (D : SbusDecoder) : Prop :=
  match D.st with
  | .undefined => D.idx = 0
  | .data => D.idx.toNat < 23
  | .waitEnd => D.idx = 23
  | .gotEnd => D.idx = 0 ∧ D.has = true

theorem sbusOk_iff {p : Params} {D : SbusDecoder} : SbusOk p D ↔
    D.TimersOk sbusProtocol p ∧ D.StoreOk (sbusClass p) (fun c => c = 16) ∧
    D.bank0.ElevenBit ∧ D.bank1.ElevenBit ∧ D.exp = 0 ∧ D.acc = 0 ∧ SbusPhase D := Iff.rfl

theorem sbusPhase_of_undefined {D : SbusDecoder} (h : D.st = .undefined) :
    SbusPhase D ↔ D.idx = 0 := by
  unfold SbusPhase
  rw [h]

theorem sbusPhase_of_data {D : SbusDecoder} (h : D.st = .data) :
    SbusPhase D ↔ D.idx.toNat < 23 := by
  unfold SbusPhase
  rw [h]

theorem sbusPhase_of_waitEnd {D : SbusDecoder} (h : D.st = .waitEnd) :
    SbusPhase D ↔ D.idx = 23 := by
  unfold SbusPhase
  rw [h]

theorem sbusPhase_of_gotEnd {D : SbusDecoder} (h : D.st = .gotEnd) :
    SbusPhase D ↔ D.idx = 0 ∧ D.has = true := by
  unfold SbusPhase
  rw [h]

/-- A hunting decoder has received no byte of a frame. -/
theorem SbusPhase.idx_of_hunting {D : SbusDecoder} (h : SbusPhase D)
    (hst : D.st = .undefined ∨ D.st = .gotEnd) : D.idx = 0 := by
  rcases hst with hst | hst
  · exact (sbusPhase_of_undefined hst).1 h
  · exact ((sbusPhase_of_gotEnd hst).1 h).1

theorem sbusHunt_phase (p : Params) (b : Byte) {D : SbusDecoder} (hidx : D.idx = 0) :
    SbusPhase (sbusHunt p b D) := by
  unfold sbusHunt
  split
  · exact (sbusPhase_of_data rfl).2 (by decide : (0 : BitVec 8).toNat < 23)
  · exact (sbusPhase_of_undefined rfl).2 hidx

theorem sbusPayload_phase (b : Byte) {D : SbusDecoder} (hidx : D.idx.toNat < 23) :
    SbusPhase (sbusPayload b D) := by
  by_cases hlast : D.idx + 1 = 23
  · exact (sbusPhase_of_waitEnd (D := sbusPayload b D) (if_pos hlast)).2 hlast
  · have hlt : (D.idx + 1).toNat < 23 := by bv_omega
    exact (sbusPhase_of_data (D := sbusPayload b D) (if_neg hlast)).2 hlt

theorem sbusReceive_phase (p : Params) (now : Word) (b : Byte) {D : SbusDecoder}
    (h : SbusPhase D) : SbusPhase (sbusReceive p now b D).decoder := by
  rcases sbusReceive_cases p now b D with ⟨hst, e⟩ | ⟨hst, e⟩ | ⟨-, -, e⟩ | ⟨-, -, e⟩ <;> rw [e]
  · exact sbusHunt_phase p b (D := D.clearGap) (h.idx_of_hunting hst)
  · exact sbusPayload_phase b (D := D.clearGap) ((sbusPhase_of_data hst).1 h)
  · exact (sbusPhase_of_gotEnd rfl).2 ⟨rfl, rfl⟩
  · exact (sbusPhase_of_undefined rfl).2 rfl

/-- The fields a byte clears or leaves at 0. -/
theorem sbusReceive_registers (p : Params) (now : Word) (b : Byte) {D : SbusDecoder}
    (hexp : D.exp = 0) : (sbusReceive p now b D).decoder.gap = 0 ∧
      (sbusReceive p now b D).decoder.exp = 0 ∧ (sbusReceive p now b D).decoder.acc = D.acc := by
  rcases sbusReceive_cases p now b D with ⟨-, e⟩ | ⟨-, e⟩ | ⟨-, -, e⟩ | ⟨-, -, e⟩ <;> rw [e]
  · unfold sbusHunt
    split <;> exact ⟨rfl, hexp, rfl⟩
  · exact ⟨rfl, hexp, rfl⟩
  · simp [sbusPublish, hexp]
  · exact ⟨rfl, rfl, rfl⟩

theorem sbusReceive_ok {p : Params} (now : Word) (b : Byte) {D : SbusDecoder} (h : SbusOk p D) :
    SbusOk p (sbusReceive p now b D).decoder := by
  obtain ⟨htimers, hstore, heleven0, heleven1, hexp, hacc, hphase⟩ := sbusOk_iff.1 h
  have hpub := sbusReceive_publishes p now b D
  obtain ⟨hgap, hexp', hacc'⟩ := sbusReceive_registers p now b hexp
  obtain ⟨heleven0', heleven1'⟩ := hpub.banks (Q := Bank.ElevenBit)
    (fun B vals fl hv _ => .load B _ fl (by decide) hv) ⟨heleven0, heleven1⟩
  exact sbusOk_iff.2 ⟨hpub.timersOk hgap htimers, hpub.storeOk (fun vals hv => by simp [hv.1]) hstore,
    heleven0', heleven1', hexp', hacc'.trans hacc, sbusReceive_phase p now b hphase⟩

theorem tickDecoder_sbusOk {p : Params} {D : SbusDecoder} (h : SbusOk p D) :
    SbusOk p (tickDecoder sbusProtocol p D) := by
  obtain ⟨htimers, hstore, heleven0, heleven1, hexp, hacc, hphase⟩ := sbusOk_iff.1 h
  obtain ⟨hfsm, hacc', -, hbank0, hbank1, hact, hhas⟩ := tickDecoder_frame sbusProtocol p D
  have hfsm' : (tickDecoder sbusProtocol p D).exp = 0 ∧ SbusPhase (tickDecoder sbusProtocol p D) := by
    rcases hfsm with ⟨hst, hidx, hexp'⟩ | ⟨hst, hidx, hexp'⟩
    · refine ⟨hexp'.trans hexp, ?_⟩
      unfold SbusPhase
      rwa [hst, hidx, hhas]
    · exact ⟨hexp', (sbusPhase_of_undefined hst).2 hidx⟩
  exact sbusOk_iff.2 ⟨tickDecoder_timersOk htimers, hstore.congr hbank0 hbank1 hact hhas,
    hbank0 ▸ heleven0, hbank1 ▸ heleven1, hfsm'.1, hacc'.trans hacc, hfsm'.2⟩

theorem restart_sbusOk {p : Params} {D : SbusDecoder} (h : SbusOk p D) :
    SbusOk p (restart sbusProtocol D) := by
  obtain ⟨htimers, hstore, heleven0, heleven1, -, hacc, -⟩ := sbusOk_iff.1 h
  exact sbusOk_iff.2 ⟨htimers.of_sameStore rfl (.refl _), hstore, heleven0, heleven1, rfl, hacc,
    (sbusPhase_of_undefined rfl).2 rfl⟩

end Sys2Proof.Machine
end

section
/-! SUPPORT. The IBus decoder keeps its invariant (R240, R243). -/

namespace Sys2Proof.Machine

/-- What `IbusOk` says of the index and the header bytes in each FSM state. -/
def IbusPhase (p : Params) (D : IbusDecoder) : Prop :=
  match D.st with
  | .idle => D.idx = 0
  | .hdr => D.idx = 1 ∧ D.byte 0 = p.ibusHdr0
  | .data => 2 ≤ D.idx.toNat ∧ D.idx.toNat < 32 ∧ D.byte 0 = p.ibusHdr0 ∧ D.byte 1 = p.ibusHdr1

theorem ibusOk_iff {p : Params} {D : IbusDecoder} : IbusOk p D ↔
    D.TimersOk ibusProtocol p ∧ D.StoreOk (ibusClass p) (fun c => c = 18) ∧
    D.bank0.fl = 0 ∧ D.bank1.fl = 0 ∧ D.exp = 0 ∧ IbusPhase p D := Iff.rfl

theorem ibusPhase_of_idle {p : Params} {D : IbusDecoder} (h : D.st = .idle) :
    IbusPhase p D ↔ D.idx = 0 := by
  unfold IbusPhase
  rw [h]

theorem ibusPhase_of_hdr {p : Params} {D : IbusDecoder} (h : D.st = .hdr) :
    IbusPhase p D ↔ D.idx = 1 ∧ D.byte 0 = p.ibusHdr0 := by
  unfold IbusPhase
  rw [h]

theorem ibusPhase_of_data {p : Params} {D : IbusDecoder} (h : D.st = .data) :
    IbusPhase p D ↔
      2 ≤ D.idx.toNat ∧ D.idx.toNat < 32 ∧ D.byte 0 = p.ibusHdr0 ∧ D.byte 1 = p.ibusHdr1 := by
  unfold IbusPhase
  rw [h]

theorem ibusHunt_phase {p : Params} (b : Byte) {D : IbusDecoder} (h : IbusPhase p D) :
    IbusPhase p (ibusHunt p b D) := by
  unfold ibusHunt
  split
  · next hb => exact (ibusPhase_of_hdr rfl).2 ⟨rfl, (D.byte_putByte_same 0 b (by decide)).trans hb⟩
  · exact h

theorem ibusHeader_phase {p : Params} (b : Byte) {D : IbusDecoder} (hst : D.st = .hdr)
    (h : IbusPhase p D) : IbusPhase p (ibusHeader p b D) := by
  obtain ⟨-, hbyte0⟩ := (ibusPhase_of_hdr hst).1 h
  unfold ibusHeader
  split
  · next hb =>
    exact (ibusPhase_of_data rfl).2 ⟨by simp, by simp,
      (D.byte_putByte_ne 1 0 b (by decide)).trans hbyte0,
      (D.byte_putByte_same 1 b (by decide)).trans hb⟩
  · exact (ibusPhase_of_idle rfl).2 rfl

theorem ibusStore_phase {p : Params} (b : Byte) {D : IbusDecoder} (hst : D.st = .data)
    (h : IbusPhase p D) (hne : D.idx + 1 ≠ 32) : IbusPhase p (ibusStore b D) := by
  obtain ⟨hmin, hmax, hbyte0, hbyte1⟩ := (ibusPhase_of_data hst).1 h
  have hidx : 2 ≤ (D.idx + 1).toNat ∧ (D.idx + 1).toNat < 32 := by bv_omega
  exact (ibusPhase_of_data (D := ibusStore b D) hst).2 ⟨hidx.1, hidx.2,
    (D.byte_putByte_ne _ 0 b (by omega)).trans hbyte0,
    (D.byte_putByte_ne _ 1 b (by omega)).trans hbyte1⟩

theorem ibusReceive_phase {p : Params} (now : Word) (b : Byte) {D : IbusDecoder}
    (h : IbusPhase p D) : IbusPhase p (ibusReceive p now b D).decoder := by
  have hclear : IbusPhase p D.clearGap := h
  rcases ibusReceive_cases p now b D with
    ⟨-, e⟩ | ⟨hst, e⟩ | ⟨hst, hne, e⟩ | ⟨-, -, -, e⟩ | ⟨-, -, -, e⟩ <;> rw [e]
  · exact ibusHunt_phase b hclear
  · exact ibusHeader_phase b hst hclear
  · exact ibusStore_phase b hst hclear hne
  · exact (ibusPhase_of_idle rfl).2 rfl
  · exact (ibusPhase_of_idle rfl).2 rfl

/-- The fields a byte clears or leaves at 0. -/
theorem ibusReceive_registers (p : Params) (now : Word) (b : Byte) {D : IbusDecoder}
    (hexp : D.exp = 0) : (ibusReceive p now b D).decoder.gap = 0 ∧
      (ibusReceive p now b D).decoder.exp = 0 := by
  rcases ibusReceive_cases p now b D with
    ⟨-, e⟩ | ⟨-, e⟩ | ⟨-, -, e⟩ | ⟨-, -, -, e⟩ | ⟨-, -, -, e⟩ <;> rw [e]
  · unfold ibusHunt
    split <;> exact ⟨rfl, hexp⟩
  · unfold ibusHeader
    split
    · exact ⟨rfl, hexp⟩
    · exact ⟨rfl, rfl⟩
  · exact ⟨rfl, hexp⟩
  · simp [ibusPublish, ibusStore, hexp]
  · exact ⟨rfl, rfl⟩

theorem ibusReceive_ok {p : Params} (now : Word) (b : Byte) {D : IbusDecoder} (h : IbusOk p D) :
    IbusOk p (ibusReceive p now b D).decoder := by
  obtain ⟨htimers, hstore, hfl0, hfl1, hexp, hphase⟩ := ibusOk_iff.1 h
  have hpub := ibusReceive_publishes p now b D
  obtain ⟨hgap, hexp'⟩ := ibusReceive_registers p now b hexp
  obtain ⟨hfl0', hfl1'⟩ := hpub.banks (Q := fun B => B.fl = 0) (fun B vals fl _ hf => hf) ⟨hfl0, hfl1⟩
  exact ibusOk_iff.2 ⟨hpub.timersOk hgap htimers, hpub.storeOk (fun vals hv => by simp [hv]) hstore,
    hfl0', hfl1', hexp', ibusReceive_phase now b hphase⟩

theorem tickDecoder_ibusOk {p : Params} {D : IbusDecoder} (h : IbusOk p D) :
    IbusOk p (tickDecoder ibusProtocol p D) := by
  obtain ⟨htimers, hstore, hfl0, hfl1, hexp, hphase⟩ := ibusOk_iff.1 h
  obtain ⟨hfsm, -, hbuf, hbank0, hbank1, hact, hhas⟩ := tickDecoder_frame ibusProtocol p D
  have hfsm' : (tickDecoder ibusProtocol p D).exp = 0 ∧
      IbusPhase p (tickDecoder ibusProtocol p D) := by
    rcases hfsm with ⟨hst, hidx, hexp'⟩ | ⟨hst, hidx, hexp'⟩
    · refine ⟨hexp'.trans hexp, ?_⟩
      unfold IbusPhase Decoder.byte
      rwa [hst, hidx, hbuf]
    · exact ⟨hexp', (ibusPhase_of_idle hst).2 hidx⟩
  exact ibusOk_iff.2 ⟨tickDecoder_timersOk htimers, hstore.congr hbank0 hbank1 hact hhas,
    hbank0 ▸ hfl0, hbank1 ▸ hfl1, hfsm'.1, hfsm'.2⟩

theorem restart_ibusOk {p : Params} {D : IbusDecoder} (h : IbusOk p D) :
    IbusOk p (restart ibusProtocol D) := by
  obtain ⟨htimers, hstore, hfl0, hfl1, -, -⟩ := ibusOk_iff.1 h
  exact ibusOk_iff.2 ⟨htimers.of_sameStore rfl (.refl _), hstore, hfl0, hfl1, rfl,
    (ibusPhase_of_idle rfl).2 rfl⟩

end Sys2Proof.Machine
end

section
/-! SUPPORT. The CRSF decoder and its mirror keep their invariant (R280, R284, R287, R288). -/

namespace Sys2Proof.Machine

/-! ### The decoder -/

/-- What `CrsfOk` says of the index, the count and the first bytes in each FSM state. -/
def CrsfPhase (p : Params) (D : CrsfDecoder) : Prop :=
  match D.st with
  | .sync => D.idx = 0 ∧ D.exp = 0
  | .len => D.idx = 0 ∧ D.exp = 0 ∧ D.byte 0 = p.crsfSync
  | .data =>
    p.crsfLenMin ≤ D.exp ∧ D.exp ≤ p.crsfLenMax ∧ D.idx < D.exp ∧
    D.byte 0 = p.crsfSync ∧ D.byte 1 = D.exp

theorem crsfOk_iff {p : Params} {D : CrsfDecoder} : CrsfOk p D ↔
    D.TimersOk crsfProtocol p ∧ D.StoreOk (crsfClass p) (fun c => c = 16) ∧
    D.bank0.ElevenBit ∧ D.bank1.ElevenBit ∧ D.bank0.fl = 0 ∧ D.bank1.fl = 0 ∧ D.acc.toNat < 256 ∧
    CrsfPhase p D := Iff.rfl

theorem crsfPhase_of_sync {p : Params} {D : CrsfDecoder} (h : D.st = .sync) :
    CrsfPhase p D ↔ D.idx = 0 ∧ D.exp = 0 := by
  unfold CrsfPhase
  rw [h]

theorem crsfPhase_of_len {p : Params} {D : CrsfDecoder} (h : D.st = .len) :
    CrsfPhase p D ↔ D.idx = 0 ∧ D.exp = 0 ∧ D.byte 0 = p.crsfSync := by
  unfold CrsfPhase
  rw [h]

theorem crsfPhase_of_data {p : Params} {D : CrsfDecoder} (h : D.st = .data) :
    CrsfPhase p D ↔ p.crsfLenMin ≤ D.exp ∧ D.exp ≤ p.crsfLenMax ∧ D.idx < D.exp ∧
      D.byte 0 = p.crsfSync ∧ D.byte 1 = D.exp := by
  unfold CrsfPhase
  rw [h]

/-- The bounds of well-formed parameters, as inequalities of numbers. -/
theorem wellFormed_bounds {p : Params} (h : p.wellFormed = true) :
    2 ≤ p.crsfLenMin.toNat ∧ p.crsfLenMax.toNat ≤ 62 ∧ 1 ≤ p.sumdMinCh.toNat ∧
      p.sumdMaxCh.toNat ≤ 32 := by
  unfold Params.wellFormed at h
  simp only [Bool.and_eq_true, decide_eq_true_eq, Config.crsfMaxFrame] at h
  omega

theorem crsfHunt_phase {p : Params} (b : Byte) {D : CrsfDecoder} (hst : D.st = .sync)
    (h : CrsfPhase p D) : CrsfPhase p (crsfHunt p b D) := by
  obtain ⟨hidx, hexp⟩ := (crsfPhase_of_sync hst).1 h
  unfold crsfHunt
  split
  · next hb =>
    exact (crsfPhase_of_len rfl).2 ⟨hidx, hexp, (D.byte_putByte_same 0 b (by decide)).trans hb⟩
  · exact h

theorem crsfLength_phase {p : Params} (hp : p.wellFormed = true) (b : Byte) {D : CrsfDecoder}
    (hst : D.st = .len) (h : CrsfPhase p D) : CrsfPhase p (crsfLength p b D) := by
  obtain ⟨-, -, hbyte0⟩ := (crsfPhase_of_len hst).1 h
  unfold crsfLength
  split
  · next hb =>
    obtain ⟨hmin, -⟩ := wellFormed_bounds hp
    have hpos : 0 < b := by
      have := BitVec.le_def.mp hb.1
      exact BitVec.lt_def.mpr (by simpa using by omega)
    exact (crsfPhase_of_data rfl).2 ⟨hb.1, hb.2, hpos,
      (D.byte_putByte_ne 1 0 b (by decide)).trans hbyte0, D.byte_putByte_same 1 b (by decide)⟩
  · exact (crsfPhase_of_sync rfl).2 ⟨rfl, rfl⟩

/-- Storing a byte of the data keeps the sync byte and the length byte. -/
theorem crsfStore_head (p : Params) (b : Byte) (D : CrsfDecoder) :
    (crsfStore p b D).byte 0 = D.byte 0 ∧ (crsfStore p b D).byte 1 = D.byte 1 :=
  ⟨D.byte_putByte_ne _ 0 b (by omega), D.byte_putByte_ne _ 1 b (by omega)⟩

theorem crsfStore_phase {p : Params} (b : Byte) {D : CrsfDecoder} (hst : D.st = .data)
    (h : CrsfPhase p D) (hne : D.idx + 1 ≠ D.exp) : CrsfPhase p (crsfStore p b D) := by
  obtain ⟨hmin, hmax, hidx, hbyte0, hbyte1⟩ := (crsfPhase_of_data hst).1 h
  obtain ⟨hhead0, hhead1⟩ := crsfStore_head p b D
  have hnext : D.idx + 1 < D.exp := by bv_omega
  exact (crsfPhase_of_data (D := crsfStore p b D) hst).2
    ⟨hmin, hmax, hnext, hhead0.trans hbyte0, hhead1.trans hbyte1⟩

theorem crsfReceive_phase {p : Params} (hp : p.wellFormed = true) (now : Word) (b : Byte)
    {D : CrsfDecoder} (m : Mirror) (h : CrsfPhase p D) :
    CrsfPhase p (crsfReceive p now b D m).decoder.decoder := by
  have hclear : CrsfPhase p D.clearGap := h
  rcases crsfReceive_cases p now b D m with
    ⟨hst, e⟩ | ⟨hst, e⟩ | ⟨hst, hne, e⟩ | ⟨-, -, E, F, -, rfl, hlast⟩
  · rw [e]
    exact crsfHunt_phase b hst hclear
  · rw [e]
    exact crsfLength_phase hp b hst hclear
  · rw [e]
    exact crsfStore_phase b hst hclear hne
  · rcases hlast with ⟨-, e⟩ | ⟨-, -, -, e⟩ | ⟨-, -, -, e⟩ | ⟨-, -, e⟩ <;> rw [e]
    · exact (crsfPhase_of_sync rfl).2 ⟨rfl, rfl⟩
    · exact (crsfPhase_of_sync (by simp [crsfPublish])).2 (by simp [crsfPublish])
    · exact (crsfPhase_of_sync rfl).2 ⟨rfl, rfl⟩
    · exact (crsfPhase_of_sync rfl).2 ⟨rfl, rfl⟩

theorem setWidth_toNat_lt (c : Byte) : (c.setWidth 16 : Half).toNat < 256 := by
  rw [BitVec.toNat_setWidth_of_le (by decide)]
  exact c.isLt

theorem crsfStore_acc_lt (p : Params) (b : Byte) {D : CrsfDecoder} (hacc : D.acc.toNat < 256) :
    (crsfStore p b D).acc.toNat < 256 := by
  have hif : (crsfStore p b D).acc = if D.idx.toNat + 1 < D.exp.toNat then
      (crc8Step p.crc8Poly (lowByte D.acc) b).setWidth 16 else D.acc := rfl
  rw [hif]
  split
  · exact setWidth_toNat_lt _
  · exact hacc

/-- The gap a byte clears, and the CRC, which stays in the low byte of `D.ACC`. -/
theorem crsfReceive_registers (p : Params) (now : Word) (b : Byte) {D : CrsfDecoder} (m : Mirror)
    (hacc : D.acc.toNat < 256) : (crsfReceive p now b D m).decoder.decoder.gap = 0 ∧
      (crsfReceive p now b D m).decoder.decoder.acc.toNat < 256 := by
  have hstore : (crsfStore p b D.clearGap).acc.toNat < 256 := crsfStore_acc_lt p b hacc
  rcases crsfReceive_cases p now b D m with
    ⟨-, e⟩ | ⟨-, e⟩ | ⟨-, -, e⟩ | ⟨-, -, E, F, rfl, rfl, hlast⟩
  · rw [e]
    unfold crsfHunt
    split <;> exact ⟨rfl, hacc⟩
  · rw [e]
    unfold crsfLength
    split
    · exact ⟨rfl, setWidth_toNat_lt _⟩
    · exact ⟨rfl, hacc⟩
  · rw [e]
    exact ⟨rfl, hstore⟩
  · rcases hlast with ⟨-, e⟩ | ⟨-, -, -, e⟩ | ⟨-, -, -, e⟩ | ⟨-, -, e⟩ <;> rw [e]
    · exact ⟨rfl, hstore⟩
    · simp only [Received.published_decoder, crsfPublish, publish_gap, publish_acc]
      exact ⟨rfl, hstore⟩
    · exact ⟨rfl, hstore⟩
    · exact ⟨rfl, hstore⟩

theorem crsfReceive_ok {p : Params} (hp : p.wellFormed = true) (now : Word) (b : Byte)
    {D : CrsfDecoder} (m : Mirror) (h : CrsfOk p D) :
    CrsfOk p (crsfReceive p now b D m).decoder.decoder := by
  obtain ⟨htimers, hstore, heleven0, heleven1, hfl0, hfl1, hacc, hphase⟩ := crsfOk_iff.1 h
  have hpub := crsfReceive_publishes p now b D m
  obtain ⟨hgap, hacc'⟩ := crsfReceive_registers p now b m hacc
  obtain ⟨heleven0', heleven1'⟩ := hpub.banks (Q := Bank.ElevenBit)
    (fun B vals fl hv _ => .load B _ fl (by decide) hv) ⟨heleven0, heleven1⟩
  obtain ⟨hfl0', hfl1'⟩ := hpub.banks (Q := fun B => B.fl = 0) (fun B vals fl _ hf => hf) ⟨hfl0, hfl1⟩
  exact crsfOk_iff.2 ⟨hpub.timersOk hgap htimers, hpub.storeOk (fun vals hv => by simp [hv.1]) hstore,
    heleven0', heleven1', hfl0', hfl1', hacc', crsfReceive_phase hp now b m hphase⟩

theorem tickDecoder_crsfOk {p : Params} {D : CrsfDecoder} (h : CrsfOk p D) :
    CrsfOk p (tickDecoder crsfProtocol p D) := by
  obtain ⟨htimers, hstore, heleven0, heleven1, hfl0, hfl1, hacc, hphase⟩ := crsfOk_iff.1 h
  obtain ⟨hfsm, hacc', hbuf, hbank0, hbank1, hact, hhas⟩ := tickDecoder_frame crsfProtocol p D
  have hphase' : CrsfPhase p (tickDecoder crsfProtocol p D) := by
    rcases hfsm with ⟨hst, hidx, hexp⟩ | ⟨hst, hidx, hexp⟩
    · unfold CrsfPhase Decoder.byte
      rwa [hst, hidx, hexp, hbuf]
    · exact (crsfPhase_of_sync hst).2 ⟨hidx, hexp⟩
  exact crsfOk_iff.2 ⟨tickDecoder_timersOk htimers, hstore.congr hbank0 hbank1 hact hhas,
    hbank0 ▸ heleven0, hbank1 ▸ heleven1, hbank0 ▸ hfl0, hbank1 ▸ hfl1, hacc' ▸ hacc, hphase'⟩

theorem restart_crsfOk {p : Params} {D : CrsfDecoder} (h : CrsfOk p D) :
    CrsfOk p (restart crsfProtocol D) := by
  obtain ⟨htimers, hstore, heleven0, heleven1, hfl0, hfl1, hacc, -⟩ := crsfOk_iff.1 h
  exact crsfOk_iff.2 ⟨htimers.of_sameStore rfl (.refl _), hstore, heleven0, heleven1, hfl0, hfl1, hacc,
    (crsfPhase_of_sync rfl).2 ⟨rfl, rfl⟩⟩

/-! ### The mirror -/

/-- A byte of the mirror of a frame: the frame's byte up to its CRC, 0 past it (R287). -/
theorem mirrorOf_byte (p : Params) (D : CrsfDecoder) {i : Nat} (hi : i < 64) :
    (mirrorOf p D).byte i = if i ≤ (D.byte 1).toNat + 1 then D.byte i else 0 := by
  simp [Mirror.byte, mirrorOf, hi]

theorem isExtended_length {p : Params} {type len : Byte} (h : isExtended p type len = true) :
    4 ≤ len.toNat := by
  unfold isExtended at h
  simp only [Bool.and_eq_true, decide_eq_true_eq] at h
  exact h.2

/-- The mirror of a frame of legal length is as a run has it (R37, R287, R288). -/
theorem mirrorOf_ok {p : Params} (hp : p.wellFormed = true) {D : CrsfDecoder}
    (hmin : p.crsfLenMin ≤ D.byte 1) (hmax : D.byte 1 ≤ p.crsfLenMax)
    (hsync : D.byte 0 = p.crsfSync) : MirrorOk p (mirrorOf p D) := by
  obtain ⟨hpmin, hpmax, -, -⟩ := wellFormed_bounds hp
  rw [BitVec.le_def] at hmin hmax
  have hlen : (mirrorOf p D).len.toNat = (D.byte 1).toNat := by
    have : (D.byte 1).toNat % 2 ^ 6 = (D.byte 1).toNat := Nat.mod_eq_of_lt (by omega)
    simpa [mirrorOf] using this
  have hwide : (mirrorOf p D).len.setWidth 8 = D.byte 1 := by
    apply BitVec.eq_of_toNat_eq
    rw [BitVec.toNat_setWidth_of_le (by decide), hlen]
  have hbyte : ∀ {i}, i < 64 → i ≤ (D.byte 1).toNat + 1 → (mirrorOf p D).byte i = D.byte i :=
    fun hi hle => (mirrorOf_byte p D hi).trans (if_pos hle)
  refine ⟨nofun, fun _ => ⟨by omega, by omega, ?_, ?_, ?_, fun i hi hpast => ?_, ?_, ?_, ?_⟩⟩
  · rw [hbyte (by decide) (by omega), hsync]
  · rw [hbyte (by decide) (by omega), hwide]
  · exact hbyte (by decide) (by omega)
  · rw [mirrorOf_byte p D hi, if_neg (by omega)]
  · rw [hwide]
    rfl
  · show (if isExtended p (D.byte 2) (D.byte 1) then D.byte 3 else 0) =
      if isExtended p (D.byte 2) (D.byte 1) then (mirrorOf p D).byte 3 else 0
    split
    · next hext => rw [hbyte (by decide) (by have := isExtended_length hext; omega)]
    · rfl
  · show (if isExtended p (D.byte 2) (D.byte 1) then D.byte 4 else 0) =
      if isExtended p (D.byte 2) (D.byte 1) then (mirrorOf p D).byte 4 else 0
    split
    · next hext => rw [hbyte (by decide) (by have := isExtended_length hext; omega)]
    · rfl

/-- A byte leaves the mirror as it was, or mirrors the frame it completes. -/
theorem crsfReceive_mirrorOk {p : Params} (hp : p.wellFormed = true) (now : Word) (b : Byte)
    {D : CrsfDecoder} {m : Mirror} (hD : CrsfPhase p D) (hm : MirrorOk p m) :
    MirrorOk p (crsfReceive p now b D m).decoder.mirror := by
  rcases crsfReceive_cases p now b D m with
    ⟨-, e⟩ | ⟨-, e⟩ | ⟨-, -, e⟩ | ⟨hst, -, E, F, rfl, -, hlast⟩
  · rwa [e]
  · rwa [e]
  · rwa [e]
  · obtain ⟨hmin, hmax, -, hbyte0, hbyte1⟩ := (crsfPhase_of_data hst).1 hD
    obtain ⟨hhead0, hhead1⟩ := crsfStore_head p b D.clearGap
    have hlen : (crsfStore p b D.clearGap).byte 1 = D.exp := hhead1.trans hbyte1
    have hmirror : MirrorOk p (mirrorOf p (crsfStore p b D.clearGap)) :=
      mirrorOf_ok hp (hlen.symm ▸ hmin) (hlen.symm ▸ hmax) (hhead0.trans hbyte0)
    rcases hlast with ⟨-, e⟩ | ⟨-, -, -, e⟩ | ⟨-, -, -, e⟩ | ⟨-, -, e⟩ <;> rw [e]
    · exact hm
    · exact hmirror
    · exact hmirror
    · exact hmirror

end Sys2Proof.Machine
end

section
/-! SUPPORT. The SumD decoder keeps its invariant (R330, R333, R336). -/

namespace Sys2Proof.Machine

/-- What `SumdOk` says of the index, the count and the first bytes in each FSM state. -/
def SumdPhase (p : Params) (D : SumdDecoder) : Prop :=
  match D.st with
  | .sync => D.idx = 0 ∧ D.exp = 0
  | .status => D.idx = 0 ∧ D.exp = 0 ∧ D.byte 0 = p.sumdSync
  | .count =>
    D.idx = 0 ∧ D.exp = 0 ∧ D.byte 0 = p.sumdSync ∧
    (D.byte 1 = p.sumdStNormal ∨ D.byte 1 = p.sumdStFailsafe)
  | .data =>
    p.sumdMinCh ≤ D.exp ∧ D.exp ≤ p.sumdMaxCh ∧ D.idx.toNat < 2 * D.exp.toNat + 2 ∧
    D.byte 0 = p.sumdSync ∧ (D.byte 1 = p.sumdStNormal ∨ D.byte 1 = p.sumdStFailsafe) ∧
    D.byte 2 = D.exp

/-- The channel counts a SumD frame may have (R330). -/
def SumdCountLegal (p : Params) (c : Nat) : Prop :=
  p.sumdMinCh.toNat ≤ c ∧ c ≤ p.sumdMaxCh.toNat

theorem sumdOk_iff {p : Params} {D : SumdDecoder} : SumdOk p D ↔
    D.TimersOk sumdProtocol p ∧ D.StoreOk (sumdClass p) (SumdCountLegal p) ∧
    D.bank0.fl &&& 7 = 0 ∧ D.bank1.fl &&& 7 = 0 ∧ SumdPhase p D := Iff.rfl

theorem sumdPhase_of_sync {p : Params} {D : SumdDecoder} (h : D.st = .sync) :
    SumdPhase p D ↔ D.idx = 0 ∧ D.exp = 0 := by
  unfold SumdPhase
  rw [h]

theorem sumdPhase_of_status {p : Params} {D : SumdDecoder} (h : D.st = .status) :
    SumdPhase p D ↔ D.idx = 0 ∧ D.exp = 0 ∧ D.byte 0 = p.sumdSync := by
  unfold SumdPhase
  rw [h]

theorem sumdPhase_of_count {p : Params} {D : SumdDecoder} (h : D.st = .count) :
    SumdPhase p D ↔ D.idx = 0 ∧ D.exp = 0 ∧ D.byte 0 = p.sumdSync ∧
      (D.byte 1 = p.sumdStNormal ∨ D.byte 1 = p.sumdStFailsafe) := by
  unfold SumdPhase
  rw [h]

theorem sumdPhase_of_data {p : Params} {D : SumdDecoder} (h : D.st = .data) :
    SumdPhase p D ↔
      p.sumdMinCh ≤ D.exp ∧ D.exp ≤ p.sumdMaxCh ∧ D.idx.toNat < 2 * D.exp.toNat + 2 ∧
      D.byte 0 = p.sumdSync ∧ (D.byte 1 = p.sumdStNormal ∨ D.byte 1 = p.sumdStFailsafe) ∧
      D.byte 2 = D.exp := by
  unfold SumdPhase
  rw [h]

theorem sumdHunt_phase {p : Params} (b : Byte) {D : SumdDecoder} (hst : D.st = .sync)
    (h : SumdPhase p D) : SumdPhase p (sumdHunt p b D) := by
  obtain ⟨hidx, hexp⟩ := (sumdPhase_of_sync hst).1 h
  unfold sumdHunt
  split
  · next hb =>
    exact (sumdPhase_of_status rfl).2 ⟨hidx, hexp, (D.byte_putByte_same 0 b (by decide)).trans hb⟩
  · exact h

theorem sumdStatus_phase {p : Params} (b : Byte) {D : SumdDecoder} (hst : D.st = .status)
    (h : SumdPhase p D) : SumdPhase p (sumdStatus p b D) := by
  obtain ⟨hidx, hexp, hbyte0⟩ := (sumdPhase_of_status hst).1 h
  unfold sumdStatus
  split
  · next hb =>
    have hbyte1 : (D.putByte 1 b).byte 1 = b := D.byte_putByte_same 1 b (by decide)
    exact (sumdPhase_of_count rfl).2 ⟨hidx, hexp,
      (D.byte_putByte_ne 1 0 b (by decide)).trans hbyte0, hb.imp hbyte1.trans hbyte1.trans⟩
  · exact (sumdPhase_of_sync rfl).2 ⟨rfl, rfl⟩

theorem sumdCount_phase {p : Params} (b : Byte) {D : SumdDecoder} (hst : D.st = .count)
    (h : SumdPhase p D) : SumdPhase p (sumdCount p b D) := by
  obtain ⟨-, -, hbyte0, hbyte1⟩ := (sumdPhase_of_count hst).1 h
  unfold sumdCount
  split
  · next hb =>
    have hkeep1 : (D.putByte 2 b).byte 1 = D.byte 1 := D.byte_putByte_ne 2 1 b (by decide)
    exact (sumdPhase_of_data rfl).2 ⟨hb.1, hb.2, Nat.zero_lt_succ _,
      (D.byte_putByte_ne 2 0 b (by decide)).trans hbyte0,
      hbyte1.imp hkeep1.trans hkeep1.trans, D.byte_putByte_same 2 b (by decide)⟩
  · exact (sumdPhase_of_sync rfl).2 ⟨rfl, rfl⟩

theorem sumdStore_phase {p : Params} (b : Byte) {D : SumdDecoder} (hst : D.st = .data)
    (h : SumdPhase p D) (hne : (sumdStore p b D).idx.toNat ≠ 2 * D.exp.toNat + 2) :
    SumdPhase p (sumdStore p b D) := by
  obtain ⟨hmin, hmax, hidx, hbyte0, hbyte1, hbyte2⟩ := (sumdPhase_of_data hst).1 h
  have hkeep : ∀ i, i < 3 → (sumdStore p b D).byte i = D.byte i :=
    fun i hi => D.byte_putByte_ne _ i b (by omega)
  have hnext : (sumdStore p b D).idx.toNat < 2 * D.exp.toNat + 2 := by
    have hsucc : (sumdStore p b D).idx = D.idx + 1 := rfl
    rw [hsucc] at hne ⊢
    bv_omega
  exact (sumdPhase_of_data (D := sumdStore p b D) hst).2 ⟨hmin, hmax, hnext,
    (hkeep 0 (by decide)).trans hbyte0,
    hbyte1.imp (hkeep 1 (by decide)).trans (hkeep 1 (by decide)).trans,
    (hkeep 2 (by decide)).trans hbyte2⟩

theorem sumdReceive_phase {p : Params} (now : Word) (b : Byte) {D : SumdDecoder}
    (h : SumdPhase p D) : SumdPhase p (sumdReceive p now b D).decoder := by
  have hclear : SumdPhase p D.clearGap := h
  rcases sumdReceive_cases p now b D with ⟨hst, e⟩ | ⟨hst, e⟩ | ⟨hst, e⟩ | ⟨hst, E, rfl, hlast⟩
  · rw [e]
    exact sumdHunt_phase b hst hclear
  · rw [e]
    exact sumdStatus_phase b hst hclear
  · rw [e]
    exact sumdCount_phase b hst hclear
  · rcases hlast with ⟨hne, e⟩ | ⟨-, -, e⟩ | ⟨-, -, e⟩ <;> rw [e]
    · exact sumdStore_phase b hst hclear hne
    · exact (sumdPhase_of_sync rfl).2 ⟨rfl, rfl⟩
    · exact (sumdPhase_of_sync rfl).2 ⟨rfl, rfl⟩

theorem sumdReceive_gap (p : Params) (now : Word) (b : Byte) (D : SumdDecoder) :
    (sumdReceive p now b D).decoder.gap = 0 := by
  rcases sumdReceive_cases p now b D with ⟨-, e⟩ | ⟨-, e⟩ | ⟨-, e⟩ | ⟨-, E, rfl, hlast⟩
  · rw [e]
    unfold sumdHunt
    split <;> rfl
  · rw [e]
    unfold sumdStatus
    split <;> rfl
  · rw [e]
    unfold sumdCount
    split <;> rfl
  · rcases hlast with ⟨-, e⟩ | ⟨-, -, e⟩ | ⟨-, -, e⟩ <;> rw [e]
    · rfl
    · simp [sumdPublish, sumdStore]
    · rfl

theorem sumdReceive_ok {p : Params} (hp : p.wellFormed = true) (now : Word) (b : Byte)
    {D : SumdDecoder} (h : SumdOk p D) : SumdOk p (sumdReceive p now b D).decoder := by
  obtain ⟨htimers, hstore, hfl0, hfl1, hphase⟩ := sumdOk_iff.1 h
  have hpub := sumdReceive_publishes p now b D
  obtain ⟨hfl0', hfl1'⟩ := hpub.banks (Q := fun B => B.fl &&& 7 = 0)
    (fun B vals fl _ hf => hf) ⟨hfl0, hfl1⟩
  have hcounts : ∀ vals : List Half, D.st = .data ∧ vals.length = D.exp.toNat →
      vals.length ≤ 32 ∧ vals.length < 64 ∧ SumdCountLegal p vals.length := by
    rintro vals ⟨hst, hlen⟩
    obtain ⟨-, -, -, hmaxCh⟩ := wellFormed_bounds hp
    obtain ⟨hmin, hmax, -⟩ := (sumdPhase_of_data hst).1 hphase
    rw [BitVec.le_def] at hmin hmax
    rw [hlen]
    exact ⟨by omega, by omega, hmin, hmax⟩
  exact sumdOk_iff.2 ⟨hpub.timersOk (sumdReceive_gap p now b D) htimers, hpub.storeOk hcounts hstore,
    hfl0', hfl1', sumdReceive_phase now b hphase⟩

theorem tickDecoder_sumdOk {p : Params} {D : SumdDecoder} (h : SumdOk p D) :
    SumdOk p (tickDecoder sumdProtocol p D) := by
  obtain ⟨htimers, hstore, hfl0, hfl1, hphase⟩ := sumdOk_iff.1 h
  obtain ⟨hfsm, -, hbuf, hbank0, hbank1, hact, hhas⟩ := tickDecoder_frame sumdProtocol p D
  have hphase' : SumdPhase p (tickDecoder sumdProtocol p D) := by
    rcases hfsm with ⟨hst, hidx, hexp⟩ | ⟨hst, hidx, hexp⟩
    · unfold SumdPhase Decoder.byte
      rwa [hst, hidx, hexp, hbuf]
    · exact (sumdPhase_of_sync hst).2 ⟨hidx, hexp⟩
  exact sumdOk_iff.2 ⟨tickDecoder_timersOk htimers, hstore.congr hbank0 hbank1 hact hhas,
    hbank0 ▸ hfl0, hbank1 ▸ hfl1, hphase'⟩

theorem restart_sumdOk {p : Params} {D : SumdDecoder} (h : SumdOk p D) :
    SumdOk p (restart sumdProtocol D) := by
  obtain ⟨htimers, hstore, hfl0, hfl1, -⟩ := sumdOk_iff.1 h
  exact sumdOk_iff.2 ⟨htimers.of_sameStore rfl (.refl _), hstore, hfl0, hfl1,
    (sumdPhase_of_sync rfl).2 ⟨rfl, rfl⟩⟩

end Sys2Proof.Machine
end

section
/-! SUPPORT. The invariant of the block at reset and under every command, and what it says of the CHAN
words. -/

namespace Sys2Proof.Machine

/-! ### At reset (R53) -/

section
variable {σ : Type} {n cap : Nat}

theorem Decoder.reset_timersOk (P : Protocol σ) (p : Params) (st : σ) :
    (Decoder.reset st n cap).TimersOk P p :=
  ⟨fun _ => rfl, .inl rfl, nofun, nofun, fun _ => ⟨rfl, rfl, rfl⟩⟩

theorem Bank.reset_marked (classify : Half → ChanClass) : (Bank.reset cap).Marked classify :=
  ⟨Nat.zero_le _, fun k hk => absurd hk (Nat.not_lt_zero k)⟩

theorem Bank.reset_elevenBit : (Bank.reset cap).ElevenBit :=
  fun k hk => absurd hk (Nat.not_lt_zero k)

theorem Decoder.reset_storeOk (classify : Half → ChanClass) (legal : Nat → Prop) (st : σ) :
    (Decoder.reset st n cap).StoreOk classify legal :=
  ⟨Bank.reset_marked _, Bank.reset_marked _, nofun, fun _ => ⟨rfl, rfl⟩⟩

end

theorem State.resetWith_inv {p : Params} (hp : p.wellFormed = true) : (State.resetWith p).Inv := by
  refine ⟨hp, sbusOk_iff.2 ?_, ibusOk_iff.2 ?_, crsfOk_iff.2 ?_, ⟨fun _ => rfl, nofun⟩,
    sumdOk_iff.2 ?_⟩
  · exact ⟨Decoder.reset_timersOk _ _ _, Decoder.reset_storeOk _ _ _, Bank.reset_elevenBit,
      Bank.reset_elevenBit, rfl, rfl, (sbusPhase_of_undefined rfl).2 rfl⟩
  · exact ⟨Decoder.reset_timersOk _ _ _, Decoder.reset_storeOk _ _ _, rfl, rfl, rfl,
      (ibusPhase_of_idle rfl).2 rfl⟩
  · exact ⟨Decoder.reset_timersOk _ _ _, Decoder.reset_storeOk _ _ _, Bank.reset_elevenBit,
      Bank.reset_elevenBit, rfl, rfl, Nat.zero_lt_succ _, (crsfPhase_of_sync rfl).2 ⟨rfl, rfl⟩⟩
  · have hfl : (0 : BitVec 4) &&& 7 = 0 := by decide
    exact ⟨Decoder.reset_timersOk _ _ _, Decoder.reset_storeOk _ _ _, hfl, hfl,
      (sumdPhase_of_sync rfl).2 ⟨rfl, rfl⟩⟩

theorem State.resetWith_summed (p : Params) : (State.resetWith p).Summed :=
  ⟨.inl rfl, nofun, trivial, nofun⟩

/-- Settles O38: no frame is partial and no bank holds a channel right after reset. -/
theorem invHoldsAtReset : Obligations.InvHoldsAtReset :=
  ⟨fun p hp => ⟨State.resetWith_inv hp, State.resetWith_summed p⟩,
    State.resetWith_inv (by decide), State.resetWith_summed _⟩

/-! ### Under every command -/

/-- Every command keeps the invariant: an RX, an ABORT and a TICK by the lemma of each decoder they
act on, RESET because it holds at reset, and the others leave the decoders alone. -/
theorem exec_keeps_inv {i : Instr} {s t : State} (hs : s.Inv) (h : exec i s = .next t) : t.Inv := by
  have ⟨hp, hsbus, hibus, hcrsf, hmirror, hsumd⟩ := hs
  cases i with
  | rxSbus b =>
    cases h
    exact ⟨hp, sbusReceive_ok _ b hsbus, hibus, hcrsf, hmirror, hsumd⟩
  | rxIbus b =>
    cases h
    exact ⟨hp, hsbus, ibusReceive_ok _ b hibus, hcrsf, hmirror, hsumd⟩
  | rxCrsf b =>
    cases h
    obtain ⟨-, -, -, -, -, -, -, hphase⟩ := crsfOk_iff.1 hcrsf
    exact ⟨hp, hsbus, hibus, crsfReceive_ok hp _ b _ hcrsf,
      crsfReceive_mirrorOk hp _ b hphase hmirror, hsumd⟩
  | rxSumd b =>
    cases h
    exact ⟨hp, hsbus, hibus, hcrsf, hmirror, sumdReceive_ok hp _ b hsumd⟩
  | tick =>
    cases h
    exact ⟨hp, tickDecoder_sbusOk hsbus, tickDecoder_ibusOk hibus, tickDecoder_crsfOk hcrsf, hmirror,
      tickDecoder_sumdOk hsumd⟩
  | abortSbus =>
    cases h
    exact ⟨hp, restart_sbusOk hsbus, hibus, hcrsf, hmirror, hsumd⟩
  | abortIbus =>
    cases h
    exact ⟨hp, hsbus, restart_ibusOk hibus, hcrsf, hmirror, hsumd⟩
  | abortCrsf =>
    cases h
    exact ⟨hp, hsbus, hibus, restart_crsfOk hcrsf, hmirror, hsumd⟩
  | abortSumd =>
    cases h
    exact ⟨hp, hsbus, hibus, hcrsf, hmirror, restart_sumdOk hsumd⟩
  | reset =>
    cases h
    exact State.resetWith_inv hp
  | _ =>
    simp at h
    subst h
    exact hs

/-- Settles O37: a step is a command, an illegal word or nothing (`step_cases`). -/
theorem stepKeepsInv : Obligations.StepKeepsInv := by
  intro s t hs h
  rcases step_cases s with e | ⟨i, rest, e⟩ | ⟨rest, e⟩ <;> rw [e] at h
  · cases h
    exact hs
  · exact exec_keeps_inv (s := s.setPending rest) hs h
  · cases h
    exact hs

/-! ### The CHAN words (R43) -/

/-- The fields of a word of the layout of R43. -/
theorem chanLayout_fields (cls : BitVec 2) (valid ok : Bool) (value : Half) {w : Word}
    (hw : w = place 32 18 cls ||| place 32 17 (BitVec.ofBool valid) |||
      place 32 16 (BitVec.ofBool ok) ||| place 32 0 value) :
    w.extractLsb' 0 16 = value ∧ w.getLsbD 16 = ok ∧ w.getLsbD 17 = valid ∧
    w.extractLsb' 18 2 = cls ∧ w.extractLsb' 20 12 = 0 := by
  subst hw
  refine ⟨(extractLsb'_eq_iff _ _ _).2 fun i hi => ?_, ?_, ?_,
    (extractLsb'_eq_iff _ _ _).2 fun i hi => ?_, (extractLsb'_eq_iff _ _ _).2 fun i hi => ?_⟩
  · interval_cases i <;> simp
  · simp
  · simp
  · interval_cases i <;> simp
  · interval_cases i <;> simp

/-- CHAN[k] reads as R43 says. -/
theorem chanWord_rule {σ : Type} {n cap : Nat} (D : Decoder σ n cap) (k : Nat) :
    ChanRule D k (chanWord D k) := by
  obtain ⟨hvalue, hok, hvalid, hcls, hhigh⟩ := chanLayout_fields _ _ _ _ (w := chanWord D k) rfl
  unfold ChanRule
  rw [hvalue, hok, hvalid, hcls, hhigh]
  refine ⟨fun hk => by simp [hk], fun hk => ?_, rfl, rfl⟩
  have hk' : ¬ k < D.active.cnt.toNat := Nat.not_lt.mpr hk
  simp [hk']

theorem rangeClass_code (low high v : Half) :
    (rangeClass low high v).code = if low ≤ v ∧ v ≤ high then 0 else 3 := by
  unfold rangeClass
  split <;> rfl

theorem rangeClass_ne_out (low high v : Half) :
    rangeClass low high v ≠ .out ↔ low ≤ v ∧ v ≤ high := by
  unfold rangeClass
  split <;> simp [*]

theorem sumdClass_code (p : Params) (v : Half) :
    (sumdClass p v).code =
      if p.sumdMin ≤ v ∧ v ≤ p.sumdMax then 0
      else if p.sumdExtLow ≤ v ∧ v < p.sumdMin then 1
      else if p.sumdMax < v ∧ v ≤ p.sumdExtHigh then 2
      else 3 := by
  unfold sumdClass
  split_ifs <;> rfl

theorem ChanClass.ne_out_iff (c : ChanClass) : c ≠ .out ↔ c.code ≠ 3 := by
  cases c <;> decide

section
variable {σ : Type} {n cap : Nat} {D : Decoder σ n cap} {k : Nat} {w : Word}

/-- A CHAN word of a bank marked against a declared range (R202, R247, R289). -/
theorem ChanRule.rangeWord {low high : Half} (h : ChanRule D k w)
    (hm : D.active.Marked (rangeClass low high)) :
    RangeWord low high D.active.cnt.toNat k w := by
  obtain ⟨hpresent, habsent, -⟩ := h
  refine ⟨fun hk => ?_, habsent⟩
  obtain ⟨hvalue, hok, hcls⟩ := hpresent hk
  rw [hvalue, hok, hcls, hm.2 k hk, decide_eq_true_eq]
  exact ⟨rangeClass_code _ _ _, rangeClass_ne_out _ _ _⟩

/-- A CHAN word of a bank marked with the SumD classes (R335). -/
theorem ChanRule.sumdRangeWord {p : Params} (h : ChanRule D k w)
    (hm : D.active.Marked (sumdClass p)) : SumdRangeWord p D.active.cnt.toNat k w := by
  obtain ⟨hpresent, habsent, -⟩ := h
  refine ⟨fun hk => ?_, habsent⟩
  obtain ⟨hvalue, hok, hcls⟩ := hpresent hk
  rw [hvalue, hok, hcls, hm.2 k hk, decide_eq_true_eq, ChanClass.ne_out_iff]
  exact ⟨sumdClass_code _ _, Iff.rfl⟩

theorem ChanRule.value_lt (h : ChanRule D k w) (hb : D.active.ElevenBit) :
    (w.extractLsb' 0 16).toNat < 2048 := by
  obtain ⟨hpresent, habsent, -⟩ := h
  rcases Nat.lt_or_ge k D.active.cnt.toNat with hk | hk
  · rw [(hpresent hk).1]
    exact hb k hk
  · rw [(habsent hk).1]
    decide

/-- The visible bank is one of the two. -/
theorem Decoder.active_of_banks {Q : Bank cap → Prop} (h0 : Q D.bank0) (h1 : Q D.bank1) :
    Q D.active := by
  unfold Decoder.active Decoder.bank
  split
  · exact h1
  · exact h0

/-- A read of a CHAN address answers that channel's word. -/
theorem chanWord_of_read {P : Protocol σ} {a : Byte} {s : State} (ha : a.toNat ≤ 0x1F)
    (h : s.setResp (readAnswer (readCommon P D a)) = { s with resp := ⟨.ok, w⟩ }) :
    ChanRule D a.toNat w := by
  have hread : readCommon P D a = some (chanWord D a.toNat) := if_pos ha
  rw [hread] at h
  have hw : chanWord D a.toNat = w := congrArg (fun t : State => t.resp.value) h
  exact hw ▸ chanWord_rule D a.toNat

end

/-- Settles O40: the CHAN word shows the value and class of its channel (`chanWord_rule`), and the
invariant has every channel of the visible bank marked. -/
theorem okChannelsAreInRange : Obligations.OkChannelsAreInRange := by
  intro s a w hs ha
  obtain ⟨-, hsbus, hibus, hcrsf, -, hsumd⟩ := hs
  obtain ⟨-, ⟨hsbus0, hsbus1, -⟩, hsbusBits0, hsbusBits1, -⟩ := sbusOk_iff.1 hsbus
  obtain ⟨-, ⟨hibus0, hibus1, -⟩, -⟩ := ibusOk_iff.1 hibus
  obtain ⟨-, ⟨hcrsf0, hcrsf1, -⟩, hcrsfBits0, hcrsfBits1, -⟩ := crsfOk_iff.1 hcrsf
  obtain ⟨-, ⟨hsumd0, hsumd1, -⟩, -⟩ := sumdOk_iff.1 hsumd
  have ha' : ¬ (a = 0x25) ∧ ¬ (0x40 ≤ a.toNat ∧ a.toNat ≤ 0x7F) := by bv_omega
  refine ⟨fun h => ?_, fun h => ?_, fun h => ?_, fun h => ?_⟩
  · rw [exec_rdSbus, Host.Outcome.next.injEq] at h
    have hrule := chanWord_of_read ha h
    exact ⟨hrule.rangeWord (Decoder.active_of_banks hsbus0 hsbus1),
      hrule.value_lt (Decoder.active_of_banks hsbusBits0 hsbusBits1)⟩
  · rw [exec_rdIbus, Host.Outcome.next.injEq] at h
    exact (chanWord_of_read ha h).rangeWord (Decoder.active_of_banks hibus0 hibus1)
  · rw [exec_rdCrsf, readCrsf, if_neg ha'.1, if_neg ha'.2, Host.Outcome.next.injEq] at h
    have hrule := chanWord_of_read ha h
    exact ⟨hrule.rangeWord (Decoder.active_of_banks hcrsf0 hcrsf1),
      hrule.value_lt (Decoder.active_of_banks hcrsfBits0 hcrsfBits1)⟩
  · rw [exec_rdSumd, Host.Outcome.next.injEq] at h
    exact (chanWord_of_read ha h).sumdRangeWord (Decoder.active_of_banks hsumd0 hsumd1)

end Sys2Proof.Machine
end

section
/-! SUPPORT. What no rule can tell apart (R54, U1, U2, U3): two decoders that agree on every register,
on the buffer bytes received so far and on the visible frame stay so under every operation. -/

namespace Sys2Proof.Machine

section
variable {σ : Type} {n cap : Nat}

/-! ### Agreement up to a number of buffer bytes -/

/-- The registers of a decoder: all of it but the buffer and the banks. -/
def Decoder.registers (D : Decoder σ n cap) : Decoder σ n cap :=
  { D with buf := Vector.replicate n 0, bank0 := Bank.reset cap, bank1 := Bank.reset cap }

/-- Two decoders agree on the registers, on the first `k` buffer bytes and on the visible frame. -/
def Decoder.AgreeUpTo (k : Nat) (D E : Decoder σ n cap) : Prop :=
  D.registers = E.registers ∧ (∀ i, i < k → D.byte i = E.byte i) ∧ D.active.SeenEq E.active

theorem Decoder.registers_eq_iff (D E : Decoder σ n cap) : D.registers = E.registers ↔
    D.st = E.st ∧ D.idx = E.idx ∧ D.exp = E.exp ∧ D.acc = E.acc ∧ D.gap = E.gap ∧ D.act = E.act ∧
    D.valid = E.valid ∧ D.has = E.has ∧ D.age = E.age ∧ D.stamp = E.stamp ∧
    D.lastErr = E.lastErr ∧ D.frmErr = E.frmErr ∧ D.ckErr = E.ckErr ∧ D.frames = E.frames := by
  simp [Decoder.registers]

theorem Decoder.seenEq_iff (filled : Decoder σ n cap → Nat) (D E : Decoder σ n cap) :
    D.SeenEq filled E ↔ D.AgreeUpTo (filled D) E := by
  unfold Decoder.AgreeUpTo Decoder.SeenEq
  rw [Decoder.registers_eq_iff]
  simp only [and_assoc]

theorem Bank.SeenEq.refl (B : Bank cap) : B.SeenEq B := ⟨rfl, rfl, fun _ _ => ⟨rfl, rfl⟩⟩

theorem Decoder.SeenEq.refl (filled : Decoder σ n cap → Nat) (D : Decoder σ n cap) :
    D.SeenEq filled D :=
  (Decoder.seenEq_iff _ _ _).2 ⟨rfl, fun _ _ => rfl, .refl _⟩

namespace Decoder.AgreeUpTo

variable {k : Nat} {D E : Decoder σ n cap}

theorem st_eq (h : D.AgreeUpTo k E) : D.st = E.st :=
  (congrArg Decoder.st h.1 : D.registers.st = E.registers.st)

theorem idx_eq (h : D.AgreeUpTo k E) : D.idx = E.idx :=
  (congrArg Decoder.idx h.1 : D.registers.idx = E.registers.idx)

theorem exp_eq (h : D.AgreeUpTo k E) : D.exp = E.exp :=
  (congrArg Decoder.exp h.1 : D.registers.exp = E.registers.exp)

theorem acc_eq (h : D.AgreeUpTo k E) : D.acc = E.acc :=
  (congrArg Decoder.acc h.1 : D.registers.acc = E.registers.acc)

theorem byte_eq (h : D.AgreeUpTo k E) {i : Nat} (hi : i < k) : D.byte i = E.byte i := h.2.1 i hi

theorem bytes_eq (h : D.AgreeUpTo k E) {first len : Nat} (hle : first + len ≤ k) :
    D.bytes first len = E.bytes first len := by
  refine List.map_congr_left fun i hi => h.byte_eq ?_
  have := List.mem_range.mp hi
  omega

theorem mono (h : D.AgreeUpTo k E) {j : Nat} (hle : j ≤ k) : D.AgreeUpTo j E :=
  ⟨h.1, fun i hi => h.2.1 i (by omega), h.2.2⟩

/-- An operation on the registers alone, such as a record update of some of them. -/
theorem map (h : D.AgreeUpTo k E) (f : Decoder σ n cap → Decoder σ n cap)
    (hregs : ∀ X, (f X.registers).registers = (f X).registers) (hbuf : ∀ X, (f X).buf = X.buf)
    (hactive : ∀ X, (f X).active = X.active) : (f D).AgreeUpTo k (f E) := by
  obtain ⟨hr, hbytes, hseen⟩ := h
  refine ⟨by rw [← hregs, hr, hregs], fun i hi => ?_, ?_⟩
  · rw [Decoder.byte_congr (hbuf D), Decoder.byte_congr (hbuf E), hbytes i hi]
  · rwa [hactive, hactive]

theorem clearGap (h : D.AgreeUpTo k E) : D.clearGap.AgreeUpTo k E.clearGap :=
  h.map Decoder.clearGap (fun _ => rfl) (fun _ => rfl) (fun _ => rfl)

theorem framingError (h : D.AgreeUpTo k E) (P : Protocol σ) :
    (framingError P D).AgreeUpTo k (framingError P E) :=
  h.map _ (fun _ => rfl) (fun _ => rfl) (fun _ => rfl)

theorem checksumError (h : D.AgreeUpTo k E) (P : Protocol σ) :
    (checksumError P D).AgreeUpTo k (checksumError P E) :=
  h.map _ (fun _ => rfl) (fun _ => rfl) (fun _ => rfl)

theorem restart (h : D.AgreeUpTo k E) (P : Protocol σ) :
    (restart P D).AgreeUpTo k (restart P E) :=
  h.map _ (fun _ => rfl) (fun _ => rfl) (fun _ => rfl)

/-- The next byte of the frame is one more byte they agree on. -/
theorem putByte (h : D.AgreeUpTo k E) (b : Byte) :
    (D.putByte k b).AgreeUpTo (k + 1) (E.putByte k b) := by
  obtain ⟨hr, hbytes, hseen⟩ := h
  refine ⟨hr, fun i hi => ?_, hseen⟩
  rw [Decoder.byte_putByte, Decoder.byte_putByte]
  by_cases hik : k = i
  · subst hik
    split
    · rfl
    · next hn =>
      have hpast : ∀ X : Decoder σ n cap, X.byte k = 0 := fun X => by
        unfold Decoder.byte
        rw [Vector.getElem?_eq_none (by omega)]
        rfl
      rw [hpast, hpast]
  · rw [if_neg (fun hc => hik hc.1), if_neg (fun hc => hik hc.1)]
    exact hbytes i (by omega)

/-- A Publish of the same frame, which shows none of what the loaded bank held before (U2, U3). -/
theorem publish (h : D.AgreeUpTo k E) (now : Word) {vals : List Half}
    (classify : Half → ChanClass) (fl : BitVec 4) (hcap : vals.length ≤ cap)
    (h64 : vals.length < 64) :
    (publish now vals (vals.map classify) fl D).AgreeUpTo k
      (publish now vals (vals.map classify) fl E) := by
  obtain ⟨hr, hbytes, -⟩ := h
  refine ⟨?_, fun i hi => ?_, ?_⟩
  · rw [Decoder.registers_eq_iff] at hr ⊢
    simp [hr]
  · rw [Decoder.byte_congr (publish_buf ..), Decoder.byte_congr (publish_buf ..), hbytes i hi]
  · rw [publish_active, publish_active]
    refine ⟨rfl, rfl, fun j hj => ?_⟩
    rw [Bank.load_cnt_toNat _ _ _ h64] at hj
    obtain ⟨hv, hc⟩ := Bank.load_at (D.bank !D.act) classify fl hcap hj
    obtain ⟨hv', hc'⟩ := Bank.load_at (E.bank !E.act) classify fl hcap hj
    exact ⟨hv.trans hv'.symm, hc.trans hc'.symm⟩

theorem gapStep (h : D.AgreeUpTo k E) (P : Protocol σ) (p : Params) :
    (gapStep P p D).AgreeUpTo k (gapStep P p E) := by
  refine h.map _ (fun X => ?_) (fun X => ?_) (fun X => ?_)
  · simp only [Machine.gapStep, apply_ite Decoder.registers]
    rfl
  · simp only [Machine.gapStep, apply_ite Decoder.buf]
    simp
  · exact (gapStep_sameStore P p X).active_eq

theorem staleStep (h : D.AgreeUpTo k E) (P : Protocol σ) (p : Params) :
    (staleStep P p D).AgreeUpTo k (staleStep P p E) := by
  refine h.map _ (fun X => ?_) (fun X => ?_) (fun X => ?_)
  · simp only [Machine.staleStep, apply_ite Decoder.registers]
    rfl
  · simp only [Machine.staleStep, apply_ite Decoder.buf]
    simp
  · simp only [Machine.staleStep, apply_ite Decoder.active]
    exact (ite_congr rfl (fun _ => rfl) fun _ => ite_self _).trans (ite_self _)

theorem tickDecoder (h : D.AgreeUpTo k E) (P : Protocol σ) (p : Params) :
    (tickDecoder P p D).AgreeUpTo k (tickDecoder P p E) := (h.gapStep P p).staleStep P p

/-! ### The read map -/

theorem chanWord_eq (h : D.AgreeUpTo k E) (j : Nat) : chanWord D j = chanWord E j := by
  obtain ⟨hr, -, hcnt, -, hchan⟩ := h
  have hvalid : D.valid = E.valid :=
    (congrArg Decoder.valid hr : D.registers.valid = E.registers.valid)
  unfold chanWord
  by_cases hj : j < D.active.cnt.toNat
  · obtain ⟨hv, hc⟩ := hchan j hj
    simp only [← hcnt, ← hv, ← hc, hvalid]
  · simp only [← hcnt, hvalid, hj, if_false, false_and]

theorem readCommon_eq (h : D.AgreeUpTo k E) (P : Protocol σ) (a : Byte) :
    readCommon P D a = readCommon P E a := by
  have hchan := h.chanWord_eq a.toNat
  obtain ⟨hr, -, hcnt, hfl, -⟩ := h
  obtain ⟨hst, hidx, hexp, -, hgap, -, hvalid, hhas, hage, hstamp, herr, hfrm, hck, hframes⟩ :=
    (Decoder.registers_eq_iff D E).1 hr
  simp only [readCommon, hchan, statusWord, countsWord, fsmdbgWord, hst, hidx, hexp, hgap, hvalid,
    hhas, hage, hstamp, herr, hfrm, hck, hframes, hcnt, hfl]

end Decoder.AgreeUpTo

end

end Sys2Proof.Machine
end

section
/-! SUPPORT. Receiving a byte in two decoders that differ only in what is hidden (R54, U1, U2, U3): the
answers are equal, and the decoders still differ only there. -/

namespace Sys2Proof.Machine

theorem Decoder.AgreeUpTo.seenEq {σ : Type} {n cap k : Nat} {filled : Decoder σ n cap → Nat}
    {D E : Decoder σ n cap} (h : D.AgreeUpTo k E) (hk : filled D ≤ k) : D.SeenEq filled E :=
  (Decoder.seenEq_iff _ _ _).2 (h.mono hk)

/-- Two receptions with the same response bits, whose decoders differ only in what is hidden. -/
def Received.SeenEq {σ : Type} {n cap : Nat} (filled : Decoder σ n cap → Nat)
    (r q : Received (Decoder σ n cap)) : Prop :=
  r.decoder.SeenEq filled q.decoder ∧ r.resp = q.resp

section
variable {σ : Type} {n cap k : Nat} {filled : Decoder σ n cap → Nat} {D E : Decoder σ n cap}

theorem Received.SeenEq.quiet (h : D.AgreeUpTo k E) (hk : filled D ≤ k) :
    (Received.quiet D).SeenEq filled (.quiet E) := ⟨h.seenEq hk, rfl⟩

theorem Received.SeenEq.published (h : D.AgreeUpTo k E) (hk : filled D ≤ k) :
    (Received.published D).SeenEq filled (.published E) := ⟨h.seenEq hk, rfl⟩

theorem Received.SeenEq.frameOnly (h : D.AgreeUpTo k E) (hk : filled D ≤ k) :
    (Received.frameOnly D).SeenEq filled (.frameOnly E) := ⟨h.seenEq hk, rfl⟩

/-- A byte put at the index that both decoders have. -/
theorem Decoder.AgreeUpTo.putNext {i j : Nat} (h : D.AgreeUpTo i E) (hij : i = j) (b : Byte) :
    (D.putByte i b).AgreeUpTo (i + 1) (E.putByte j b) := hij ▸ h.putByte b

end

/-! ### SBus -/

theorem sbusFilled_of_data {D : SbusDecoder} (h : D.st = .data) : sbusFilled D = D.idx.toNat := by
  unfold sbusFilled
  rw [h]

theorem sbusFilled_of_waitEnd {D : SbusDecoder} (h : D.st = .waitEnd) : sbusFilled D = 23 := by
  unfold sbusFilled
  rw [h]

theorem sbusHunt_filled (p : Params) (b : Byte) (D : SbusDecoder) :
    sbusFilled (sbusHunt p b D) = 0 := by
  unfold sbusHunt
  split <;> rfl

theorem sbusHunt_agree (p : Params) (b : Byte) {D E : SbusDecoder} {k : Nat} (h : D.AgreeUpTo k E) :
    (sbusHunt p b D).AgreeUpTo k (sbusHunt p b E) := by
  unfold sbusHunt
  split
  · exact h.map (fun X => { X with st := .data, idx := 0 }) (fun _ => rfl) (fun _ => rfl) fun _ => rfl
  · exact h.map (fun X => { X with st := .undefined }) (fun _ => rfl) (fun _ => rfl) fun _ => rfl

theorem sbusPayload_agree (b : Byte) {D E : SbusDecoder} (h : D.AgreeUpTo D.idx.toNat E) :
    (sbusPayload b D).AgreeUpTo (D.idx.toNat + 1) (sbusPayload b E) :=
  (h.putNext (congrArg BitVec.toNat h.idx_eq) b).map
    (fun X => { X with idx := X.idx + 1, st := if X.idx + 1 = 23 then .waitEnd else .data })
    (fun _ => rfl) (fun _ => rfl) fun _ => rfl

theorem sbusPayload_filled (b : Byte) {D : SbusDecoder} (hidx : D.idx.toNat < 23) :
    sbusFilled (sbusPayload b D) = D.idx.toNat + 1 := by
  by_cases hlast : D.idx + 1 = 23
  · rw [sbusFilled_of_waitEnd (D := sbusPayload b D) (if_pos hlast)]
    bv_omega
  · rw [sbusFilled_of_data (D := sbusPayload b D) (if_neg hlast)]
    show (D.idx + 1).toNat = _
    bv_omega

/-- A complete SBus frame publishes from its 23 payload bytes alone (R201). -/
theorem sbusPublish_agree (p : Params) (now : Word) {D E : SbusDecoder} (h : D.AgreeUpTo 23 E) :
    (sbusPublish p now D).AgreeUpTo 23 (sbusPublish p now E) := by
  have hvals : sbusDecode D = sbusDecode E := congrArg unpack11 (h.bytes_eq (by decide))
  have hflags : sbusFlags D = sbusFlags E :=
    congrArg (BitVec.extractLsb' 0 4) (h.byte_eq (by decide))
  have hlen : (sbusDecode E).length = 16 := (unpack11_sixteenElevenBit _).1
  unfold sbusPublish
  rw [hvals, hflags]
  exact (h.publish now (sbusClass p) _ (by omega) (by omega)).map
    (fun X => { X with st := .gotEnd, idx := 0 }) (fun _ => rfl) (fun _ => rfl) fun _ => rfl

theorem sbusReceive_seenEq (p : Params) (now : Word) (b : Byte) {D E : SbusDecoder}
    (hD : SbusPhase D) (h : D.SeenEq sbusFilled E) :
    (sbusReceive p now b D).SeenEq sbusFilled (sbusReceive p now b E) := by
  have hagree := ((Decoder.seenEq_iff _ _ _).1 h).clearGap
  have hstE : E.st = D.st := hagree.st_eq.symm
  cases hst : D.st with
  | undefined =>
    rw [sbusReceive_of_undefined p now b hst,
      sbusReceive_of_undefined p now b (hstE.trans hst)]
    exact .quiet (sbusHunt_agree p b hagree) (by simp [sbusHunt_filled])
  | gotEnd =>
    rw [sbusReceive_of_gotEnd p now b hst,
      sbusReceive_of_gotEnd p now b (hstE.trans hst)]
    exact .quiet (sbusHunt_agree p b hagree) (by simp [sbusHunt_filled])
  | data =>
    rw [sbusReceive_of_data p now b hst, sbusReceive_of_data p now b (hstE.trans hst)]
    rw [sbusFilled_of_data hst] at hagree
    exact .quiet (sbusPayload_agree b (D := D.clearGap) hagree)
      (sbusPayload_filled b (D := D.clearGap) ((sbusPhase_of_data hst).1 hD)).le
  | waitEnd =>
    rw [sbusReceive_of_waitEnd p now b hst,
      sbusReceive_of_waitEnd p now b (hstE.trans hst)]
    rw [sbusFilled_of_waitEnd hst] at hagree
    split
    · exact .published (sbusPublish_agree p now hagree) (Nat.zero_le _)
    · exact .quiet (hagree.framingError _) (Nat.zero_le _)

/-! ### IBus -/

theorem ibusFilled_of_data {D : IbusDecoder} (h : D.st = .data) : ibusFilled D = D.idx.toNat := by
  unfold ibusFilled
  rw [h]

theorem ibusFilled_of_hdr {D : IbusDecoder} (h : D.st = .hdr) : ibusFilled D = 1 := by
  unfold ibusFilled
  rw [h]

theorem ibusFilled_of_idle {D : IbusDecoder} (h : D.st = .idle) : ibusFilled D = 0 := by
  unfold ibusFilled
  rw [h]

theorem ibusHunt_seenEq (p : Params) (b : Byte) {D E : IbusDecoder} (hst : D.st = .idle)
    (h : D.AgreeUpTo 0 E) : (Received.quiet (ibusHunt p b D)).SeenEq ibusFilled
      (.quiet (ibusHunt p b E)) := by
  unfold ibusHunt
  split
  · exact .quiet ((h.putByte b).map
      (fun X => { X with acc := sum16Step p.ibusSeed b, idx := 1, st := .hdr })
      (fun _ => rfl) (fun _ => rfl) fun _ => rfl) le_rfl
  · exact .quiet h (ibusFilled_of_idle hst).le

theorem ibusHeader_seenEq (p : Params) (b : Byte) {D E : IbusDecoder} (h : D.AgreeUpTo 1 E) :
    (Received.quiet (ibusHeader p b D)).SeenEq ibusFilled (.quiet (ibusHeader p b E)) := by
  unfold ibusHeader
  split
  · exact .quiet ((h.putByte b).map
      (fun X => { X with acc := sum16Step X.acc b, idx := 2, st := .data })
      (fun _ => rfl) (fun _ => rfl) fun _ => rfl) le_rfl
  · exact .quiet (h.framingError _) (Nat.zero_le _)

theorem ibusStore_agree (b : Byte) {D E : IbusDecoder} (h : D.AgreeUpTo D.idx.toNat E) :
    (ibusStore b D).AgreeUpTo (D.idx.toNat + 1) (ibusStore b E) :=
  (h.putNext (congrArg BitVec.toNat h.idx_eq) b).map
    (fun X => { X with acc := if X.idx < 30 then sum16Step X.acc b else X.acc, idx := X.idx + 1 })
    (fun _ => rfl) (fun _ => rfl) fun _ => rfl

/-- The channels of an IBus frame are read from its bytes 2 to 29 (R244, R245). -/
theorem ibusDecode_eq (p : Params) {D E : IbusDecoder} (h : D.AgreeUpTo 32 E) :
    ibusDecode p D = ibusDecode p E := by
  have hstandard : ibusStandard p.ibusStdMask D = ibusStandard p.ibusStdMask E := by
    refine List.map_congr_left fun j hj => ?_
    have hj14 := List.mem_range.mp hj
    rw [h.byte_eq (i := 2 + 2 * j) (by omega), h.byte_eq (i := 3 + 2 * j) (by omega)]
  have hpayload : ibusPayload D = ibusPayload E := by
    unfold ibusPayload
    congr 1
    funext i
    exact h.byte_eq (by omega)
  have hcompressed : ∀ j : Fin 4,
      ibusCompressed p.ibusCompMap D j = ibusCompressed p.ibusCompMap E j := by
    intro j
    unfold ibusCompressed
    rw [hpayload, h.byte_eq (i := 7 + 6 * j.val) (by omega),
      h.byte_eq (i := 5 + 6 * j.val) (by omega), h.byte_eq (i := 3 + 6 * j.val) (by omega)]
  unfold ibusDecode
  rw [hstandard, hcompressed, hcompressed, hcompressed, hcompressed]

theorem ibusPublish_agree (p : Params) (now : Word) {D E : IbusDecoder} (h : D.AgreeUpTo 32 E) :
    (ibusPublish p now D).AgreeUpTo 32 (ibusPublish p now E) := by
  have hlen : (ibusDecode p E).length = 18 := ibusDecode_length p E
  unfold ibusPublish
  rw [ibusDecode_eq p h]
  exact (h.publish now (ibusClass p) _ (by omega) (by omega)).map
    (fun X => { X with st := .idle, idx := 0 }) (fun _ => rfl) (fun _ => rfl) fun _ => rfl

theorem ibusJudge_seenEq (p : Params) (now : Word) {D E : IbusDecoder} (hst : D.st = .data)
    (h : D.AgreeUpTo D.idx.toNat E) :
    (ibusJudge p now D).SeenEq ibusFilled (ibusJudge p now E) := by
  unfold ibusJudge
  rw [← h.idx_eq]
  split
  · next hlast =>
    rw [hlast] at h
    have hvalid : ibusValid D = ibusValid E := by
      unfold ibusValid
      rw [h.byte_eq (i := 30) (by decide), h.byte_eq (i := 31) (by decide), h.acc_eq]
    rw [hvalid]
    split
    · exact .published (ibusPublish_agree p now h) (Nat.zero_le _)
    · exact .quiet (h.checksumError _) (Nat.zero_le _)
  · exact .quiet h (ibusFilled_of_data hst).le

theorem ibusReceive_seenEq (p : Params) (now : Word) (b : Byte) {D E : IbusDecoder}
    (hD : IbusPhase p D) (h : D.SeenEq ibusFilled E) :
    (ibusReceive p now b D).SeenEq ibusFilled (ibusReceive p now b E) := by
  have hagree := ((Decoder.seenEq_iff _ _ _).1 h).clearGap
  have hstE : E.st = D.st := hagree.st_eq.symm
  cases hst : D.st with
  | idle =>
    rw [ibusReceive_of_idle p now b hst, ibusReceive_of_idle p now b (hstE.trans hst)]
    exact ibusHunt_seenEq p b hst (hagree.mono (Nat.zero_le _))
  | hdr =>
    rw [ibusReceive_of_hdr p now b hst, ibusReceive_of_hdr p now b (hstE.trans hst)]
    exact ibusHeader_seenEq p b (hagree.mono (ibusFilled_of_hdr hst).ge)
  | data =>
    rw [ibusReceive_of_data p now b hst, ibusReceive_of_data p now b (hstE.trans hst)]
    rw [ibusFilled_of_data hst] at hagree
    obtain ⟨-, hidx, -⟩ := (ibusPhase_of_data hst).1 hD
    have hnext : (ibusStore b D.clearGap).idx.toNat = D.idx.toNat + 1 := by
      show (D.idx + 1).toNat = _
      bv_omega
    exact ibusJudge_seenEq p now (D := ibusStore b D.clearGap) hst
      (hnext ▸ ibusStore_agree b (D := D.clearGap) hagree)

/-! ### CRSF -/

theorem crsfFilled_of_data {D : CrsfDecoder} (h : D.st = .data) :
    crsfFilled D = 2 + D.idx.toNat := by
  unfold crsfFilled
  rw [h]

theorem crsfFilled_of_len {D : CrsfDecoder} (h : D.st = .len) : crsfFilled D = 1 := by
  unfold crsfFilled
  rw [h]

theorem crsfFilled_of_sync {D : CrsfDecoder} (h : D.st = .sync) : crsfFilled D = 0 := by
  unfold crsfFilled
  rw [h]

/-- Two receptions of the CRSF unit with equal mirrors and response bits, whose decoders differ only
in what is hidden. -/
def Received.CrsfSeenEq (r q : Received CrsfUnit) : Prop :=
  r.decoder.decoder.SeenEq crsfFilled q.decoder.decoder ∧ r.decoder.mirror = q.decoder.mirror ∧
  r.resp = q.resp

theorem Received.SeenEq.withMirror {r q : Received CrsfDecoder} (h : r.SeenEq crsfFilled q)
    {m l : Mirror} (hm : m = l) :
    (r.map fun D => CrsfUnit.mk D m).CrsfSeenEq (q.map fun D => CrsfUnit.mk D l) :=
  ⟨h.1, hm, h.2⟩

theorem crsfHunt_seenEq (p : Params) (b : Byte) {D E : CrsfDecoder} (hst : D.st = .sync)
    (h : D.AgreeUpTo 0 E) : (Received.quiet (crsfHunt p b D)).SeenEq crsfFilled
      (.quiet (crsfHunt p b E)) := by
  unfold crsfHunt
  split
  · exact .quiet ((h.putByte b).map (fun X => { X with st := .len })
      (fun _ => rfl) (fun _ => rfl) fun _ => rfl) le_rfl
  · exact .quiet h (crsfFilled_of_sync hst).le

theorem crsfLength_seenEq (p : Params) (b : Byte) {D E : CrsfDecoder} (h : D.AgreeUpTo 1 E) :
    (Received.quiet (crsfLength p b D)).SeenEq crsfFilled (.quiet (crsfLength p b E)) := by
  unfold crsfLength
  split
  · exact .quiet ((h.putByte b).map
      (fun X => { X with exp := b, idx := 0, acc := p.crc8Init.setWidth 16, st := .data })
      (fun _ => rfl) (fun _ => rfl) fun _ => rfl) le_rfl
  · exact .quiet (h.framingError _) (Nat.zero_le _)

theorem crsfStore_agree (p : Params) (b : Byte) {D E : CrsfDecoder}
    (h : D.AgreeUpTo (2 + D.idx.toNat) E) :
    (crsfStore p b D).AgreeUpTo (2 + D.idx.toNat + 1) (crsfStore p b E) :=
  (h.putNext (congrArg (fun i : BitVec 8 => 2 + i.toNat) h.idx_eq) b).map
    (fun X => { X with
      acc := if X.idx.toNat + 1 < X.exp.toNat then
          (crc8Step p.crc8Poly (lowByte X.acc) b).setWidth 16
        else X.acc
      idx := X.idx + 1 })
    (fun _ => rfl) (fun _ => rfl) fun _ => rfl

/-- The mirror of a frame is made of the frame's bytes alone (R287, R288). -/
theorem mirrorOf_eq (p : Params) {D E : CrsfDecoder} {k : Nat} (h : D.AgreeUpTo k E)
    (hmin : 1 ≤ (D.byte 1).toNat) (hk : (D.byte 1).toNat + 2 ≤ k) :
    mirrorOf p D = mirrorOf p E := by
  have h1 : E.byte 1 = D.byte 1 := (h.byte_eq (by omega)).symm
  have h2 : E.byte 2 = D.byte 2 := (h.byte_eq (by omega)).symm
  have hframe : ∀ i : Fin 64, (if i.val ≤ (D.byte 1).toNat + 1 then D.byte i.val else 0) =
      if i.val ≤ (D.byte 1).toNat + 1 then E.byte i.val else 0 :=
    fun i => ite_congr rfl (fun hi => h.byte_eq (by omega)) fun _ => rfl
  have haddress : ∀ i, i ≤ 4 → (if isExtended p (D.byte 2) (D.byte 1) then D.byte i else 0) =
      if isExtended p (D.byte 2) (D.byte 1) then E.byte i else 0 :=
    fun i hi => ite_congr rfl
      (fun hext => h.byte_eq (by have := isExtended_length hext; omega)) fun _ => rfl
  unfold mirrorOf
  rw [h1, h2, haddress 3 (by decide), haddress 4 (by decide)]
  simp only [hframe]

theorem crsfDeliver_seenEq (p : Params) (now : Word) (len : Byte) {D E : CrsfDecoder} {k : Nat}
    (hst : D.st = .sync) (h : D.AgreeUpTo k E) (hk : len.toNat + 2 ≤ k) (hmin : 1 ≤ len.toNat) :
    (crsfDeliver p now len D).SeenEq crsfFilled (crsfDeliver p now len E) := by
  unfold crsfDeliver
  rw [← h.byte_eq (i := 2) (by omega)]
  split
  · split
    · next hlen =>
      have hk' : 24 + 2 ≤ k := by simpa [hlen] using hk
      have hvals : crsfDecode D = crsfDecode E := congrArg unpack11 (h.bytes_eq (by omega))
      have hcount : (crsfDecode E).length = 16 := (unpack11_sixteenElevenBit _).1
      unfold crsfPublish
      rw [hvals]
      refine .published (h.publish now (crsfClass p) _ (by omega) (by omega)) ?_
      rw [crsfFilled_of_sync ((publish_st ..).trans hst)]
      exact Nat.zero_le _
    · exact .frameOnly (h.framingError _) (Nat.zero_le _)
  · exact .frameOnly h (by simp [crsfFilled_of_sync hst])

theorem crsfJudge_seenEq (p : Params) (now : Word) (b : Byte) {D E : CrsfDecoder} (m : Mirror)
    (hst : D.st = .data) (hlen : D.byte 1 = D.exp) (hmin : 1 ≤ D.exp.toNat)
    (h : D.AgreeUpTo (2 + D.idx.toNat) E) :
    (crsfJudge p now b D m).CrsfSeenEq (crsfJudge p now b E m) := by
  unfold crsfJudge
  rw [← h.idx_eq, ← h.exp_eq]
  split
  · next hlast =>
    rw [hlast] at h
    by_cases hcrc : lowByte D.acc = b
    · have hsync := h.map (fun X => { X with st := .sync, idx := 0, exp := 0 })
        (fun _ => rfl) (fun _ => rfl) fun _ => rfl
      rw [if_pos hcrc, if_pos (h.acc_eq ▸ hcrc)]
      exact (crsfDeliver_seenEq p now D.exp rfl hsync (by omega) hmin).withMirror
        (mirrorOf_eq p h (by rw [hlen]; exact hmin) (by rw [hlen]; omega))
    · rw [if_neg hcrc, if_neg (h.acc_eq ▸ hcrc)]
      exact (Received.SeenEq.quiet (h.checksumError _) (Nat.zero_le _)).withMirror rfl
  · exact (Received.SeenEq.quiet h (crsfFilled_of_data hst).le).withMirror rfl

theorem crsfReceive_seenEq {p : Params} (now : Word) (b : Byte)
    {D E : CrsfDecoder} (m : Mirror) (hD : CrsfPhase p D) (h : D.SeenEq crsfFilled E) :
    (crsfReceive p now b D m).CrsfSeenEq (crsfReceive p now b E m) := by
  have hagree := ((Decoder.seenEq_iff _ _ _).1 h).clearGap
  have hstE : E.st = D.st := hagree.st_eq.symm
  cases hst : D.st with
  | sync =>
    rw [crsfReceive_of_sync p now b m hst,
      crsfReceive_of_sync p now b m (hstE.trans hst)]
    exact (crsfHunt_seenEq p b (D := D.clearGap) hst (hagree.mono (Nat.zero_le _))).withMirror rfl
  | len =>
    rw [crsfReceive_of_len p now b m hst, crsfReceive_of_len p now b m (hstE.trans hst)]
    exact (crsfLength_seenEq p b (hagree.mono (crsfFilled_of_len hst).ge)).withMirror rfl
  | data =>
    rw [crsfReceive_of_data p now b m hst,
      crsfReceive_of_data p now b m (hstE.trans hst)]
    rw [crsfFilled_of_data hst] at hagree
    obtain ⟨-, -, hidx, -, hbyte1⟩ := (crsfPhase_of_data hst).1 hD
    have hlen : (crsfStore p b D.clearGap).byte 1 = D.exp :=
      (crsfStore_head p b D.clearGap).2.trans hbyte1
    have hnext : 2 + (crsfStore p b D.clearGap).idx.toNat = 2 + D.idx.toNat + 1 := by
      show 2 + (D.idx + 1).toNat = _
      bv_omega
    exact crsfJudge_seenEq p now b m (D := crsfStore p b D.clearGap) hst hlen
      (by show 1 ≤ D.exp.toNat; bv_omega)
      (hnext ▸ crsfStore_agree p b (D := D.clearGap) hagree)

/-! ### SumD -/

theorem sumdFilled_of_sync {D : SumdDecoder} (h : D.st = .sync) : sumdFilled D = 0 := by
  unfold sumdFilled
  rw [h]

theorem sumdFilled_of_status {D : SumdDecoder} (h : D.st = .status) : sumdFilled D = 1 := by
  unfold sumdFilled
  rw [h]

theorem sumdFilled_of_count {D : SumdDecoder} (h : D.st = .count) : sumdFilled D = 2 := by
  unfold sumdFilled
  rw [h]

theorem sumdFilled_of_data {D : SumdDecoder} (h : D.st = .data) :
    sumdFilled D = 3 + D.idx.toNat := by
  unfold sumdFilled
  rw [h]

theorem sumdHunt_seenEq (p : Params) (b : Byte) {D E : SumdDecoder} (hst : D.st = .sync)
    (h : D.AgreeUpTo 0 E) : (Received.quiet (sumdHunt p b D)).SeenEq sumdFilled
      (.quiet (sumdHunt p b E)) := by
  unfold sumdHunt
  split
  · exact .quiet ((h.putByte b).map
      (fun X => { X with acc := crc16Step p.sumdCrcPoly p.sumdCrcInit b, st := .status })
      (fun _ => rfl) (fun _ => rfl) fun _ => rfl) le_rfl
  · exact .quiet h (sumdFilled_of_sync hst).le

theorem sumdStatus_seenEq (p : Params) (b : Byte) {D E : SumdDecoder} (h : D.AgreeUpTo 1 E) :
    (Received.quiet (sumdStatus p b D)).SeenEq sumdFilled (.quiet (sumdStatus p b E)) := by
  unfold sumdStatus
  split
  · exact .quiet ((h.putByte b).map
      (fun X => { X with acc := crc16Step p.sumdCrcPoly X.acc b, st := .count })
      (fun _ => rfl) (fun _ => rfl) fun _ => rfl) le_rfl
  · exact .quiet (h.framingError _) (Nat.zero_le _)

theorem sumdCount_seenEq (p : Params) (b : Byte) {D E : SumdDecoder} (h : D.AgreeUpTo 2 E) :
    (Received.quiet (sumdCount p b D)).SeenEq sumdFilled (.quiet (sumdCount p b E)) := by
  unfold sumdCount
  split
  · exact .quiet ((h.putByte b).map
      (fun X => { X with
        exp := b, idx := 0, acc := crc16Step p.sumdCrcPoly X.acc b, st := .data })
      (fun _ => rfl) (fun _ => rfl) fun _ => rfl) le_rfl
  · exact .quiet (h.framingError _) (Nat.zero_le _)

theorem sumdStore_agree (p : Params) (b : Byte) {D E : SumdDecoder}
    (h : D.AgreeUpTo (3 + D.idx.toNat) E) :
    (sumdStore p b D).AgreeUpTo (3 + D.idx.toNat + 1) (sumdStore p b E) :=
  (h.putNext (congrArg (fun i : BitVec 8 => 3 + i.toNat) h.idx_eq) b).map
    (fun X => { X with
      acc := if X.idx.toNat < 2 * X.exp.toNat then crc16Step p.sumdCrcPoly X.acc b else X.acc
      idx := X.idx + 1 })
    (fun _ => rfl) (fun _ => rfl) fun _ => rfl

/-- A SumD frame of `c` channels publishes from its first `2c + 3` bytes alone (R334, R336). -/
theorem sumdPublish_agree (p : Params) (now : Word) {c k : Nat} {D E : SumdDecoder}
    (h : D.AgreeUpTo k E) (hk : 3 + 2 * c ≤ k) (hc : c ≤ 32) :
    (sumdPublish p now c D).AgreeUpTo k (sumdPublish p now c E) := by
  have hvals : sumdDecode c D = sumdDecode c E := by
    refine List.map_congr_left fun j hj => ?_
    have hjc := List.mem_range.mp hj
    rw [h.byte_eq (i := 3 + 2 * j) (by omega), h.byte_eq (i := 4 + 2 * j) (by omega)]
  have hflags : sumdFlags p D = sumdFlags p E := by
    unfold sumdFlags
    rw [h.byte_eq (i := 1) (by omega)]
  have hlen : (sumdDecode c E).length = c := sumdDecode_length c E
  unfold sumdPublish
  rw [hvals, hflags]
  exact (h.publish now (sumdClass p) _ (by omega) (by omega)).map
    (fun X => { X with st := .sync, idx := 0, exp := 0 }) (fun _ => rfl) (fun _ => rfl) fun _ => rfl

theorem sumdJudge_seenEq (p : Params) (now : Word) {D E : SumdDecoder} (hst : D.st = .data)
    (hmax : D.exp.toNat ≤ 32) (h : D.AgreeUpTo (3 + D.idx.toNat) E) :
    (sumdJudge p now D).SeenEq sumdFilled (sumdJudge p now E) := by
  unfold sumdJudge
  rw [← h.idx_eq, ← h.exp_eq]
  split
  · next hlast =>
    have hvalid : sumdValid D.exp.toNat D = sumdValid D.exp.toNat E := by
      unfold sumdValid
      rw [h.byte_eq (i := 3 + 2 * D.exp.toNat) (by omega),
        h.byte_eq (i := 4 + 2 * D.exp.toNat) (by omega), h.acc_eq]
    rw [hvalid]
    split
    · exact .published (sumdPublish_agree p now h (by omega) hmax) (Nat.zero_le _)
    · exact .quiet (h.checksumError _) (Nat.zero_le _)
  · exact .quiet h (sumdFilled_of_data hst).le

theorem sumdReceive_seenEq {p : Params} (hp : p.wellFormed = true) (now : Word) (b : Byte)
    {D E : SumdDecoder} (hD : SumdPhase p D) (h : D.SeenEq sumdFilled E) :
    (sumdReceive p now b D).SeenEq sumdFilled (sumdReceive p now b E) := by
  have hagree := ((Decoder.seenEq_iff _ _ _).1 h).clearGap
  have hstE : E.st = D.st := hagree.st_eq.symm
  cases hst : D.st with
  | sync =>
    rw [sumdReceive_of_sync p now b hst, sumdReceive_of_sync p now b (hstE.trans hst)]
    exact sumdHunt_seenEq p b hst (hagree.mono (Nat.zero_le _))
  | status =>
    rw [sumdReceive_of_status p now b hst,
      sumdReceive_of_status p now b (hstE.trans hst)]
    exact sumdStatus_seenEq p b (hagree.mono (sumdFilled_of_status hst).ge)
  | count =>
    rw [sumdReceive_of_count p now b hst, sumdReceive_of_count p now b (hstE.trans hst)]
    exact sumdCount_seenEq p b (hagree.mono (sumdFilled_of_count hst).ge)
  | data =>
    rw [sumdReceive_of_data p now b hst, sumdReceive_of_data p now b (hstE.trans hst)]
    rw [sumdFilled_of_data hst] at hagree
    obtain ⟨-, hmax, hidx, -⟩ := (sumdPhase_of_data hst).1 hD
    obtain ⟨-, -, -, hmaxCh⟩ := wellFormed_bounds hp
    have hexp : D.exp.toNat ≤ 32 := (BitVec.le_def.mp hmax).trans hmaxCh
    have hnext : 3 + (sumdStore p b D.clearGap).idx.toNat = 3 + D.idx.toNat + 1 := by
      show 3 + (D.idx + 1).toNat = _
      bv_omega
    exact sumdJudge_seenEq p now (D := sumdStore p b D.clearGap) hst hexp
      (hnext ▸ sumdStore_agree p b (D := D.clearGap) hagree)

/-! ### TICK and ABORT -/

section
variable {σ : Type} {n cap : Nat} {filled : Decoder σ n cap → Nat} {D E : Decoder σ n cap}

/-- A restarted decoder has received no byte of a frame. -/
theorem restart_seenEq (P : Protocol σ) (h : D.SeenEq filled E)
    (hinitial : filled (restart P D) = 0) : (restart P D).SeenEq filled (restart P E) :=
  (((Decoder.seenEq_iff _ _ _).1 h).restart P).seenEq (by omega)

/-- A TICK keeps the bytes received, or drops them all with its byte timeout. -/
theorem tickDecoder_seenEq (P : Protocol σ) (p : Params) (h : D.SeenEq filled E)
    (hcongr : ∀ X Y : Decoder σ n cap, X.st = Y.st → X.idx = Y.idx → filled X = filled Y)
    (hinitial : ∀ X : Decoder σ n cap, X.st = P.initial → filled X = 0) :
    (tickDecoder P p D).SeenEq filled (tickDecoder P p E) := by
  refine (((Decoder.seenEq_iff _ _ _).1 h).tickDecoder P p).seenEq ?_
  rcases (tickDecoder_frame P p D).1 with ⟨hst, hidx, -⟩ | ⟨hst, -, -⟩
  · exact (hcongr _ _ hst hidx).le
  · rw [hinitial _ hst]
    exact Nat.zero_le _

end

theorem sbusFilled_congr {D E : SbusDecoder} (hst : D.st = E.st) (hidx : D.idx = E.idx) :
    sbusFilled D = sbusFilled E := by
  unfold sbusFilled
  rw [hst, hidx]

theorem sbusFilled_of_undefined {D : SbusDecoder} (h : D.st = .undefined) : sbusFilled D = 0 := by
  unfold sbusFilled
  rw [h]

theorem ibusFilled_congr {D E : IbusDecoder} (hst : D.st = E.st) (hidx : D.idx = E.idx) :
    ibusFilled D = ibusFilled E := by
  unfold ibusFilled
  rw [hst, hidx]

theorem crsfFilled_congr {D E : CrsfDecoder} (hst : D.st = E.st) (hidx : D.idx = E.idx) :
    crsfFilled D = crsfFilled E := by
  unfold crsfFilled
  rw [hst, hidx]

theorem sumdFilled_congr {D E : SumdDecoder} (hst : D.st = E.st) (hidx : D.idx = E.idx) :
    sumdFilled D = sumdFilled E := by
  unfold sumdFilled
  rw [hst, hidx]

end Sys2Proof.Machine
end

section
/-! SUPPORT. No command and no step observes what is hidden (R54, U1, U2, U3). -/

namespace Sys2Proof.Machine

theorem readCommon_seenEq {σ : Type} {n cap : Nat} {filled : Decoder σ n cap → Nat}
    {D E : Decoder σ n cap} (h : D.SeenEq filled E) (P : Protocol σ) (a : Byte) :
    readCommon P D a = readCommon P E a :=
  ((Decoder.seenEq_iff _ _ _).1 h).readCommon_eq P a

theorem readCrsf_seenEq {D E : CrsfDecoder} (h : D.SeenEq crsfFilled E) (m : Mirror) (a : Byte) :
    readCrsf D m a = readCrsf E m a := by
  unfold readCrsf
  rw [readCommon_seenEq h]

theorem State.SeenEq.refl (s : State) : s.SeenEq s :=
  ⟨rfl, rfl, rfl, rfl, rfl, rfl, .refl _ _, .refl _ _, .refl _ _, .refl _ _⟩

/-- The same response in both states leaves them as alike as they were. -/
theorem State.SeenEq.setResp {s t : State} (h : s.SeenEq t) (r : Response) :
    (s.setResp r).SeenEq (t.setResp r) := by
  obtain ⟨hparams, hticks, hcrc, hmirror, -, hpending, hdecoders⟩ := h
  exact ⟨hparams, hticks, hcrc, hmirror, rfl, hpending, hdecoders⟩

theorem State.SeenEq.setPending {s t : State} (h : s.SeenEq t) (q : List CmdWord) :
    (s.setPending q).SeenEq (t.setPending q) := by
  obtain ⟨hparams, hticks, hcrc, hmirror, hresp, -, hdecoders⟩ := h
  exact ⟨hparams, hticks, hcrc, hmirror, hresp, rfl, hdecoders⟩

/-- Both states answer a command with next states that are alike. -/
def HiddenUnseen (i : Instr) (s t : State) : Prop :=
  ∃ s' t', exec i s = .next s' ∧ exec i t = .next t' ∧ s'.SeenEq t'

/-- A command that answers the same in both states, and changes nothing but the response. -/
theorem State.SeenEq.answer {i : Instr} {s t : State} {r q : Response} (h : s.SeenEq t)
    (hs : exec i s = .next (s.setResp r)) (ht : exec i t = .next (t.setResp q)) (hr : r = q) :
    HiddenUnseen i s t := by
  subst hr
  exact ⟨_, _, hs, ht, h.setResp r⟩

/-- Every command leaves alike states alike: a byte, a TICK and an ABORT by the lemmas of each decoder
they act on, a read because the read map shows nothing hidden. -/
theorem exec_hiddenUnseen (i : Instr) {s t : State} (hs : s.Inv) (h : s.SeenEq t) :
    HiddenUnseen i s t := by
  obtain ⟨hp, hsbusOk, hibusOk, hcrsfOk, -, hsumdOk⟩ := hs
  obtain ⟨params, ticks, crc8Acc, tsbus, tibus, tcrsf, mirror, tsumd, resp, pending⟩ := t
  have ⟨hparams, hticks, hcrc, hmirror, hresp, hpending, hsbus, hibus, hcrsf, hsumd⟩ := h
  cases hparams; cases hticks; cases hcrc; cases hmirror; cases hresp; cases hpending
  cases i with
  | nop => exact h.answer rfl rfl rfl
  | crc8Rd => exact h.answer rfl rfl rfl
  | rdTime => exact h.answer rfl rfl rfl
  | rdSbus a =>
    exact h.answer (exec_rdSbus a _) (exec_rdSbus a _)
      (congrArg readAnswer (readCommon_seenEq hsbus _ a))
  | rdIbus a =>
    exact h.answer (exec_rdIbus a _) (exec_rdIbus a _)
      (congrArg readAnswer (readCommon_seenEq hibus _ a))
  | rdCrsf a =>
    exact h.answer (exec_rdCrsf a _) (exec_rdCrsf a _)
      (congrArg readAnswer (readCrsf_seenEq hcrsf _ a))
  | rdSumd a =>
    exact h.answer (exec_rdSumd a _) (exec_rdSumd a _)
      (congrArg readAnswer (readCommon_seenEq hsumd _ a))
  | rxSbus b =>
    obtain ⟨-, -, -, -, -, -, hphase⟩ := sbusOk_iff.1 hsbusOk
    obtain ⟨hD, hr⟩ := sbusReceive_seenEq s.params s.ticks b hphase hsbus
    exact ⟨_, _, rfl, rfl, rfl, rfl, rfl, rfl, hr, rfl, hD, hibus, hcrsf, hsumd⟩
  | rxIbus b =>
    obtain ⟨-, -, -, -, -, hphase⟩ := ibusOk_iff.1 hibusOk
    obtain ⟨hD, hr⟩ := ibusReceive_seenEq s.params s.ticks b hphase hibus
    exact ⟨_, _, rfl, rfl, rfl, rfl, rfl, rfl, hr, rfl, hsbus, hD, hcrsf, hsumd⟩
  | rxCrsf b =>
    obtain ⟨-, -, -, -, -, -, -, hphase⟩ := crsfOk_iff.1 hcrsfOk
    obtain ⟨hD, hm, hr⟩ := crsfReceive_seenEq s.ticks b s.mirror hphase hcrsf
    exact ⟨_, _, rfl, rfl, rfl, rfl, rfl, hm, hr, rfl, hsbus, hibus, hD, hsumd⟩
  | rxSumd b =>
    obtain ⟨-, -, -, -, hphase⟩ := sumdOk_iff.1 hsumdOk
    obtain ⟨hD, hr⟩ := sumdReceive_seenEq hp s.ticks b hphase hsumd
    exact ⟨_, _, rfl, rfl, rfl, rfl, rfl, rfl, hr, rfl, hsbus, hibus, hcrsf, hD⟩
  | tick =>
    exact ⟨_, _, rfl, rfl, rfl, rfl, rfl, rfl, rfl, rfl,
      tickDecoder_seenEq _ _ hsbus (fun _ _ => sbusFilled_congr) fun _ => sbusFilled_of_undefined,
      tickDecoder_seenEq _ _ hibus (fun _ _ => ibusFilled_congr) fun _ => ibusFilled_of_idle,
      tickDecoder_seenEq _ _ hcrsf (fun _ _ => crsfFilled_congr) fun _ => crsfFilled_of_sync,
      tickDecoder_seenEq _ _ hsumd (fun _ _ => sumdFilled_congr) fun _ => sumdFilled_of_sync⟩
  | crc8Init => exact ⟨_, _, rfl, rfl, rfl, rfl, rfl, rfl, rfl, rfl, hsbus, hibus, hcrsf, hsumd⟩
  | crc8Feed b => exact ⟨_, _, rfl, rfl, rfl, rfl, rfl, rfl, rfl, rfl, hsbus, hibus, hcrsf, hsumd⟩
  | abortSbus =>
    exact ⟨_, _, rfl, rfl, rfl, rfl, rfl, rfl, rfl, rfl, restart_seenEq _ hsbus rfl, hibus, hcrsf,
      hsumd⟩
  | abortIbus =>
    exact ⟨_, _, rfl, rfl, rfl, rfl, rfl, rfl, rfl, rfl, hsbus, restart_seenEq _ hibus rfl, hcrsf,
      hsumd⟩
  | abortCrsf =>
    exact ⟨_, _, rfl, rfl, rfl, rfl, rfl, rfl, rfl, rfl, hsbus, hibus, restart_seenEq _ hcrsf rfl,
      hsumd⟩
  | abortSumd =>
    exact ⟨_, _, rfl, rfl, rfl, rfl, rfl, rfl, rfl, rfl, hsbus, hibus, hcrsf,
      restart_seenEq _ hsumd rfl⟩
  | reset => exact ⟨_, _, rfl, rfl, State.SeenEq.refl _⟩

/-- Settles O36: the two states have the same words waiting, so a step is the same command in both. -/
theorem hiddenContentIsNeverObserved : Obligations.HiddenContentIsNeverObserved := by
  intro s t hs h
  have hpending : s.pending = t.pending := h.2.2.2.2.2.1
  cases hq : s.pending with
  | nil => exact ⟨s, t, step_of_nil hq, step_of_nil (hpending.symm.trans hq), h⟩
  | cons w rest =>
    rw [step_of_cons hq, step_of_cons (hpending.symm.trans hq)]
    have hrest := h.setPending rest
    cases hd : decode w with
    | ok i =>
      rw [executeWord_ok hd, executeWord_ok hd]
      exact exec_hiddenUnseen i (s := s.setPending rest) hs hrest
    | error e =>
      rw [executeWord_error hd, executeWord_error hd]
      exact ⟨_, _, rfl, rfl, hrest.setResp respIllegal⟩

end Sys2Proof.Machine
end

section
/-! SUPPORT. What a publish leaves (R76). -/

namespace Sys2Proof.Machine

/-- Settles O25: the visible bank is the inactive one loaded with the frame, read through the lemmas
of `Bank.load`; every other field by its `publish` lemma. -/
theorem publishWritesTheInactiveBank : Obligations.PublishWritesTheInactiveBank := by
  intro σ n cap D now vals cls fl hcap _ hlen hcls
  unfold PublishRule
  rw [publish_active]
  refine ⟨publish_act .., publish_old_bank .., fun k hk => ?_, fun k hk => ?_, fun k hk => ⟨?_, ?_⟩,
    Bank.load_cnt_toNat _ cls fl (by omega), Bank.load_fl .., publish_valid .., publish_has ..,
    publish_age .., publish_stamp .., publish_frames .., publish_st .., publish_idx ..,
    publish_exp .., publish_acc .., publish_buf .., publish_gap .., publish_lastErr ..,
    publish_frmErr .., publish_ckErr ..⟩
  · rw [Bank.load_valueAt, if_pos ⟨hk, by omega⟩, List.getD_eq_getElem]
  · rw [Bank.load_classAt, if_pos ⟨hk, by omega⟩, List.getD_eq_getElem]
  · rw [Bank.load_valueAt, if_neg (by omega)]
  · rw [Bank.load_classAt, if_neg (by omega)]

end Sys2Proof.Machine
end

section
/-! SUPPORT. The 11-bit fields of R78, bit by bit: both integers of the rule are read as
little-endian digits, of 8 bits for the bytes and of 11 bits for the channels. -/

namespace Sys2Proof.Machine

/-- Bit `m` of an integer given by its `w`-bit digits is bit `m % w` of digit `m / w`. -/
theorem testBit_ofDigits_two_pow {w : Nat} (hw : 0 < w) {L : List Nat} (hL : ∀ d ∈ L, d < 2 ^ w)
    (m : Nat) : (Nat.ofDigits (2 ^ w) L).testBit m = (L.getD (m / w) 0).testBit (m % w) := by
  induction L generalizing m with
  | nil => simp
  | cons d L ih =>
    obtain ⟨hd, hL⟩ := List.forall_mem_cons.mp hL
    rw [Nat.ofDigits_cons, Nat.add_comm, Nat.testBit_two_pow_mul_add _ hd, ih hL]
    by_cases hm : m < w
    · simp [hm, Nat.div_eq_of_lt, Nat.mod_eq_of_lt]
    · have hle : w ≤ m := Nat.le_of_not_lt hm
      rw [if_neg hm, ← Nat.mod_eq_sub_mod hle, Nat.div_eq_sub_div hw hle, List.getD_cons_succ]

theorem leNat_eq_ofDigits (p : List Byte) :
    leNat p = Nat.ofDigits (2 ^ 8) (p.map BitVec.toNat) := by
  induction p with
  | nil => rfl
  | cons b p ih => rw [leNat, ih, List.map_cons, Nat.ofDigits_cons]

theorem pack11Nat_eq_ofDigits (ch : List Half) :
    pack11Nat ch = Nat.ofDigits (2 ^ 11) (ch.map BitVec.toNat) := by
  induction ch with
  | nil => rfl
  | cons c ch ih => rw [pack11Nat, ih, List.map_cons, Nat.ofDigits_cons]

theorem leNat_testBit (p : List Byte) (m : Nat) :
    (leNat p).testBit m = (p.getD (m / 8) 0).getLsbD (m % 8) := by
  have hbytes : ∀ d ∈ p.map BitVec.toNat, d < 2 ^ 8 := by
    simpa using fun b _ => BitVec.isLt b
  rw [leNat_eq_ofDigits, testBit_ofDigits_two_pow (by decide) hbytes]
  exact congrArg (Nat.testBit · _) (List.getD_map p 0 BitVec.toNat)

theorem pack11Nat_testBit {ch : List Half} (hch : ∀ c ∈ ch, c.toNat < 2048) (m : Nat) :
    (pack11Nat ch).testBit m = (ch.getD (m / 11) 0).getLsbD (m % 11) := by
  have hchannels : ∀ d ∈ ch.map BitVec.toNat, d < 2 ^ 11 := List.forall_mem_map.mpr hch
  rw [pack11Nat_eq_ofDigits, testBit_ofDigits_two_pow (by decide) hchannels]
  exact congrArg (Nat.testBit · _) (List.getD_map ch 0 BitVec.toNat)

/-! ### The bits of the two lists -/

@[simp] theorem unpack11_length (p : List Byte) : (unpack11 p).length = 16 := by simp [unpack11]

@[simp] theorem pack11_length (ch : List Half) : (pack11 ch).length = 22 := by simp [pack11]

theorem unpack11_getLsbD (p : List Byte) {k : Nat} (hk : k < 16) (i : Nat) :
    ((unpack11 p).getD k 0).getLsbD i = (decide (i < 11) && (leNat p).testBit (11 * k + i)) := by
  have hmask : (0x7FF : Nat).testBit i = decide (i < 11) := Nat.testBit_two_pow_sub_one 11 i
  have hwidth : i < 11 → i < 16 := by omega
  simp only [unpack11, List.getD_eq_getElem?_getD, List.getElem?_map, List.getElem?_range hk,
    Option.map_some, Option.getD_some, BitVec.getLsbD_ofNat, Nat.testBit_and,
    Nat.testBit_shiftRight, hmask]
  by_cases hi : i < 11 <;> simp [hi, hwidth]

theorem pack11_getLsbD (ch : List Half) {j : Nat} (hj : j < 22) (i : Nat) :
    ((pack11 ch).getD j 0).getLsbD i = (decide (i < 8) && (pack11Nat ch).testBit (8 * j + i)) := by
  simp only [pack11, List.getD_eq_getElem?_getD, List.getElem?_map, List.getElem?_range hj,
    Option.map_some, Option.getD_some, BitVec.getLsbD_ofNat, Nat.testBit_shiftRight]

/-- Settles O27: bit `i` of channel `k` is bit `11k + i` of the little-endian integer. -/
theorem unpackedBitsOfEachChannel : Obligations.UnpackedBitsOfEachChannel := by
  intro p _
  refine ⟨unpack11_length p, fun k hk i => ?_⟩
  rw [unpack11_getLsbD p hk, leNat_testBit]

/-! ### The two integers agree on the 176 bits of a frame -/

theorem leNat_pack11_testBit (ch : List Half) {m : Nat} (hm : m < 176) :
    (leNat (pack11 ch)).testBit m = (pack11Nat ch).testBit m := by
  have hbit : m % 8 < 8 := Nat.mod_lt _ (by decide)
  rw [leNat_testBit, pack11_getLsbD ch (by omega), Nat.div_add_mod]
  simp [hbit]

theorem pack11Nat_unpack11_testBit (p : List Byte) {m : Nat} (hm : m < 176) :
    (pack11Nat (unpack11 p)).testBit m = (leNat p).testBit m := by
  have hbit : m % 11 < 11 := Nat.mod_lt _ (by decide)
  obtain ⟨-, helevenBit⟩ := unpack11_sixteenElevenBit p
  rw [pack11Nat_testBit helevenBit, unpack11_getLsbD p (by omega), Nat.div_add_mod]
  simp [hbit]

/-- Two lists of words of one length are equal if each pair of entries has the same bits. -/
theorem list_eq_of_getLsbD {w : Nat} {xs ys : List (BitVec w)} (hlen : xs.length = ys.length)
    (h : ∀ k, k < ys.length → ∀ i, i < w → (xs.getD k 0).getLsbD i = (ys.getD k 0).getLsbD i) :
    xs = ys := by
  refine List.ext_getElem hlen fun k hx hy => BitVec.eq_of_getLsbD_eq fun i hi => ?_
  simpa only [List.getD_eq_getElem, hx, hy] using h k hy i hi

theorem unpack11_pack11 {ch : List Half} (hlen : ch.length = 16) (hch : ∀ c ∈ ch, c.toNat < 2048) :
    unpack11 (pack11 ch) = ch := by
  refine list_eq_of_getLsbD (by simp [hlen]) fun k hk i _ => ?_
  rw [unpack11_getLsbD _ (by omega)]
  by_cases hi : i < 11
  · have hdiv : (11 * k + i) / 11 = k := by omega
    have hmod : (11 * k + i) % 11 = i := by omega
    rw [leNat_pack11_testBit ch (by omega), pack11Nat_testBit hch, hdiv, hmod]
    simp [hi]
  · have hsmall : (ch.getD k 0).toNat < 2 ^ i := by
      rw [List.getD_eq_getElem ch 0 hk]
      calc ch[k].toNat < 2 ^ 11 := hch _ (List.getElem_mem hk)
        _ ≤ 2 ^ i := Nat.pow_le_pow_right (by decide) (Nat.le_of_not_lt hi)
    rw [BitVec.getLsbD, Nat.testBit_lt_two_pow hsmall]
    simp [hi]

theorem pack11_unpack11 {p : List Byte} (hlen : p.length = 22) : pack11 (unpack11 p) = p := by
  refine list_eq_of_getLsbD (by simp [hlen]) fun j hj i hi => ?_
  have hdiv : (8 * j + i) / 8 = j := by omega
  have hmod : (8 * j + i) % 8 = i := by omega
  rw [pack11_getLsbD _ (by omega), pack11Nat_unpack11_testBit p (by omega), leNat_testBit, hdiv,
    hmod]
  simp [hi]

/-- Settles O28: the bytes and the channels are two groupings of the same 176 bits. -/
theorem packAndUnpackAreInverse : Obligations.PackAndUnpackAreInverse :=
  ⟨fun _ hlen hch => unpack11_pack11 hlen hch, fun _ hlen => pack11_unpack11 hlen⟩

end Sys2Proof.Machine
end

section
/-! SUPPORT. Decoding and encoding (R100, R101, R103, R107): a word selects a row of the opcode map
exactly if it is the encoding of the row's command, and no word selects two rows; so the words that
decode are the encodings. -/

namespace Sys2Proof

open Sys2Proof.Laws

/-! ### The fields of a word (R100) -/

/-- A word is its four fields. -/
theorem CmdWord.eq_iff_fields (w v : CmdWord) : w = v ↔
    w.op = v.op ∧ w.dec = v.dec ∧ w.z = v.z ∧ w.data = v.data := by
  refine ⟨by rintro rfl; exact ⟨rfl, rfl, rfl, rfl⟩, fun ⟨hop, hdec, hz, hdata⟩ => ?_⟩
  simp only [CmdWord.op, CmdWord.dec, CmdWord.z, CmdWord.data, BitVec.toNat_eq,
    BitVec.extractLsb'_toNat, Nat.shiftRight_eq_div_pow] at *
  omega

/-- A word with `Z` 00 is put together from its other fields. -/
theorem eq_cmdWord_iff (w : CmdWord) (op : BitVec 4) (dec : BitVec 2) (data : Byte) :
    w = cmdWord op dec data ↔ w.op = op ∧ w.dec = dec ∧ w.z = 0 ∧ w.data = data := by
  obtain ⟨hop, hdec, hz, hdata⟩ := EncodedFields.of_cmdWord op dec data
  rw [CmdWord.eq_iff_fields, hop, hdec, hz, hdata]

/-- The mask of the rows with an operand clears `DATA` and keeps the other fields. -/
theorem and_operandMask_fields (w : CmdWord) :
    (w &&& 0xFF00).op = w.op ∧ (w &&& 0xFF00).dec = w.dec ∧ (w &&& 0xFF00).z = w.z ∧
    (w &&& 0xFF00).data = 0 :=
  ⟨(BitVec.extractLsb'_and ..).trans (BitVec.and_allOnes (x := w.op)),
   (BitVec.extractLsb'_and ..).trans (BitVec.and_allOnes (x := w.dec)),
   (BitVec.extractLsb'_and ..).trans (BitVec.and_allOnes (x := w.z)),
   (BitVec.extractLsb'_and ..).trans (BitVec.and_zero (x := w.data))⟩

/-- A word selects a row with an operand by every field but `DATA`. -/
theorem and_operandMask_iff (w : CmdWord) (op : BitVec 4) (dec : BitVec 2) :
    w &&& 0xFF00 = cmdWord op dec 0 ↔ w.op = op ∧ w.dec = dec ∧ w.z = 0 := by
  obtain ⟨hop, hdec, hz, hdata⟩ := and_operandMask_fields w
  rw [eq_cmdWord_iff, hop, hdec, hz, hdata]
  simp

/-! ### The rows of the opcode map (R101) -/

/-- A row without an operand is selected by the word of its command alone. -/
theorem selects_plainRow_iff (i : Instr) (w : CmdWord) :
    (OpRow.mk (encode i) 0xFFFF fun _ => i).selects w = true ↔ w = encode i := by
  have hmask : w &&& 0xFFFF = w := BitVec.and_allOnes
  rw [OpRow.selects, hmask, beq_iff_eq]

/-- A row with an operand is selected by the words of its command, one for each operand. -/
theorem selects_operandRow_iff (op : BitVec 4) (dec : BitVec 2) (make : Byte → Instr) (w : CmdWord)
    (hmake : ∀ b, encode (make b) = cmdWord op dec b) :
    (OpRow.mk (cmdWord op dec 0) 0xFF00 make).selects w = true ↔ w = encode (make w.data) := by
  rw [OpRow.selects, beq_iff_eq, and_operandMask_iff, hmake, eq_cmdWord_iff]
  simp

/-- A row of the opcode map is selected by the words of its command, and by no others. -/
theorem selects_iff_encode {r : OpRow} (hr : r ∈ opcodeMap) (w : CmdWord) :
    r.selects w = true ↔ w = encode (r.make w.data) := by
  simp only [opcodeMap, List.mem_cons, List.not_mem_nil, or_false] at hr
  rcases hr with rfl | rfl | rfl | rfl | rfl | rfl | rfl | rfl | rfl | rfl | rfl | rfl | rfl | rfl |
    rfl | rfl | rfl | rfl | rfl
  · exact selects_plainRow_iff .nop w
  · exact selects_operandRow_iff 0x1 0 .rxSbus w fun _ => rfl
  · exact selects_operandRow_iff 0x1 1 .rxIbus w fun _ => rfl
  · exact selects_operandRow_iff 0x1 2 .rxCrsf w fun _ => rfl
  · exact selects_operandRow_iff 0x1 3 .rxSumd w fun _ => rfl
  · exact selects_plainRow_iff .tick w
  · exact selects_operandRow_iff 0x3 0 .rdSbus w fun _ => rfl
  · exact selects_operandRow_iff 0x3 1 .rdIbus w fun _ => rfl
  · exact selects_operandRow_iff 0x3 2 .rdCrsf w fun _ => rfl
  · exact selects_operandRow_iff 0x3 3 .rdSumd w fun _ => rfl
  · exact selects_plainRow_iff .crc8Init w
  · exact selects_operandRow_iff 0x5 0 .crc8Feed w fun _ => rfl
  · exact selects_plainRow_iff .crc8Rd w
  · exact selects_plainRow_iff .rdTime w
  · exact selects_plainRow_iff .abortSbus w
  · exact selects_plainRow_iff .abortIbus w
  · exact selects_plainRow_iff .abortCrsf w
  · exact selects_plainRow_iff .abortSumd w
  · exact selects_plainRow_iff .reset w

/-- A word that selects two rows shows both patterns on the bits both masks keep. -/
theorem patterns_agree_of_selects {r q : OpRow} {w : CmdWord} (hr : r.selects w = true)
    (hq : q.selects w = true) : r.pattern &&& q.mask = q.pattern &&& r.mask := by
  have hr : w &&& r.mask = r.pattern := by simpa [OpRow.selects] using hr
  have hq : w &&& q.mask = q.pattern := by simpa [OpRow.selects] using hq
  rw [← hr, ← hq, BitVec.and_assoc, BitVec.and_assoc, BitVec.and_comm r.mask]

/-- Settles O4: any two rows' patterns differ on the bits both their masks keep. -/
theorem atMostOneRowMatches : Obligations.AtMostOneRowMatches := by
  have hdiffer : opcodeMap.Pairwise fun r q => r.pattern &&& q.mask ≠ q.pattern &&& r.mask := by
    decide
  exact hdiffer.imp fun hne _ ⟨hr, hq⟩ => hne (patterns_agree_of_selects hr hq)

/-- Every command has its row, which makes it from the word's `DATA`. -/
theorem exists_row (i : Instr) : ∃ r ∈ opcodeMap, r.make (encode i).data = i := by
  have hdata : (encode i).data = (EncodedFields.columns i).2.2 := by
    cases i <;> exact (EncodedFields.of_cmdWord _ _ _).2.2.2
  rw [hdata]
  cases i <;> simp [opcodeMap, EncodedFields.columns]

/-! ### Decoding (R107) -/

/-- A word decodes to the command of the row it selects, there being at most one. -/
theorem decode_of_selects {r : OpRow} {w : CmdWord} (hr : r ∈ opcodeMap) (h : r.selects w = true) :
    decode w = .ok (r.make w.data) := by
  obtain ⟨q, hq⟩ := Option.isSome_iff_exists.1 
    (List.find?_isSome (p := fun r : OpRow => r.selects w) |>.2 ⟨r, hr, h⟩)
  have hqr : q = r := by
    by_contra hne
    have hsymm : Std.Symm fun r q : OpRow => ∀ w, ¬ (r.selects w = true ∧ q.selects w = true) :=
      ⟨fun _ _ hno w hboth => hno w hboth.symm⟩
    exact atMostOneRowMatches.forall (List.mem_of_find?_eq_some hq) hr hne w
      ⟨List.find?_some (p := fun r : OpRow => r.selects w) hq, h⟩
  simp only [decode, hq, hqr]

/-- A word decodes exactly to the command it is the encoding of. -/
theorem decode_eq_ok_iff (w : CmdWord) (i : Instr) : decode w = .ok i ↔ encode i = w := by
  constructor
  · intro h
    unfold decode at h
    split at h
    · next r hfind =>
      obtain rfl := Except.ok.inj h
      exact ((selects_iff_encode (List.mem_of_find?_eq_some hfind) w).1
        (List.find?_some (p := fun r : OpRow => r.selects w) hfind)).symm
    · cases h
  · rintro rfl
    obtain ⟨r, hr, hmake⟩ := exists_row i
    rw [decode_of_selects hr ((selects_iff_encode hr _).2 (by rw [hmake])), hmake]

/-- Settles O2. -/
theorem decodeOfEncode : Obligations.DecodeOfEncode := fun i => (decode_eq_ok_iff _ i).2 rfl

/-- Settles O3. -/
theorem encodeOfDecode : Obligations.EncodeOfDecode := fun w i => (decode_eq_ok_iff w i).1

end Sys2Proof
end

section
/-! SUPPORT. Illegal words and reserved addresses (R103, R410), and the shape of every response (R104,
R105). -/

namespace Sys2Proof

/-! ### Which words do not decode (R103) -/

/-- A word does not decode exactly if it selects no row (R107). -/
theorem decode_eq_error_iff (w : CmdWord) :
    (∃ e, decode w = .error e) ↔ ∀ r ∈ opcodeMap, ¬ r.selects w = true := by
  constructor
  · rintro ⟨e, he⟩ r hr hsel
    rw [decode_of_selects hr hsel] at he
    cases he
  · intro hnone
    refine ⟨illegalReason w, ?_⟩
    rw [decode, List.find?_eq_none.2 hnone]

/-- A word selects a row by its fields `Z`, `OP`, `DEC`, and by `DATA` if the row's mask keeps it. -/
theorem selects_iff_fields {r : OpRow} (hr : r ∈ opcodeMap) (w : CmdWord) :
    r.selects w = true ↔ w.z = 0 ∧ w.op = r.pattern.op ∧ w.dec = r.pattern.dec ∧
      (w.data = 0 ∨ r.mask = 0xFF00) := by
  have hrow : ∀ r ∈ opcodeMap, (r.mask = 0xFFFF ∨ r.mask = 0xFF00) ∧
      r.pattern = cmdWord r.pattern.op r.pattern.dec 0 := by decide
  obtain ⟨hmask, hpattern⟩ := hrow r hr
  rw [OpRow.selects, beq_iff_eq, hpattern]
  rcases hmask with hmask | hmask <;> rw [hmask]
  · have hw : w &&& 0xFFFF = w := BitVec.and_allOnes
    have hne : (0xFFFF : CmdWord) ≠ 0xFF00 := by decide
    rw [hw, eq_cmdWord_iff, ← hpattern]
    tauto
  · rw [and_operandMask_iff, ← hpattern]
    tauto

/-- Which fields no row with `Z` 00 has (R101, R103). -/
theorem no_row_has_fields_iff (op : BitVec 4) (dec : BitVec 2) (dataZero : Bool) :
    (∀ r ∈ opcodeMap, ¬ (op = r.pattern.op ∧ dec = r.pattern.dec ∧
      (dataZero = true ∨ r.mask = 0xFF00))) ↔
    (0x9 ≤ op ∧ op ≤ 0xE) ∨
    (dec ≠ 0 ∧ op ∈ [0x0#4, 0x2#4, 0x4#4, 0x5#4, 0x6#4, 0x7#4, 0xF#4]) ∨
    (dataZero = false ∧ op ∈ [0x0#4, 0x2#4, 0x4#4, 0x6#4, 0x7#4, 0x8#4, 0xF#4]) := by
  revert op dec dataZero
  decide

/-- R103: the words that do not decode. -/
theorem decode_eq_error_iff_fields (w : CmdWord) : (∃ e, decode w = .error e) ↔
    ((0x9 ≤ w.op ∧ w.op ≤ 0xE) ∨ w.z ≠ 0 ∨
     (w.dec ≠ 0 ∧ w.op ∈ [0x0#4, 0x2#4, 0x4#4, 0x5#4, 0x6#4, 0x7#4, 0xF#4]) ∨
     (w.data ≠ 0 ∧ w.op ∈ [0x0#4, 0x2#4, 0x4#4, 0x6#4, 0x7#4, 0x8#4, 0xF#4])) := by
  have hrows := no_row_has_fields_iff w.op w.dec (decide (w.data = 0))
  simp only [decide_eq_true_eq, decide_eq_false_iff_not] at hrows
  rw [decode_eq_error_iff]
  by_cases hz : w.z = 0
  · have hsel : (∀ r ∈ opcodeMap, ¬ r.selects w = true) ↔
        ∀ r ∈ opcodeMap, ¬ (w.op = r.pattern.op ∧ w.dec = r.pattern.dec ∧
          (w.data = 0 ∨ r.mask = 0xFF00)) :=
      forall₂_congr fun r hr => not_congr (by simp [selects_iff_fields hr, hz])
    rw [hsel, hrows]
    simp [hz]
  · exact iff_of_true (fun r hr hsel => hz ((selects_iff_fields hr w).1 hsel).1) (.inr (.inl hz))

end Sys2Proof

namespace Sys2Proof.Machine

/-! ### Reads of reserved addresses (R42, R406) -/

theorem readCommon_eq_none {σ : Type} {n cap : Nat} (P : Protocol σ) (D : Decoder σ n cap) {a : Byte}
    (ha : commonAddress a = false) : readCommon P D a = none := by
  rw [← Option.not_isSome_iff_eq_none, readCommon_isSome, ha]
  decide

theorem readCrsf_eq_none (D : CrsfDecoder) (m : Mirror) {a : Byte}
    (ha : (commonAddress a || crsfAddress a) = false) : readCrsf D m a = none := by
  rw [← Option.not_isSome_iff_eq_none, readCrsf_isSome, ha]
  decide

/-- Settles O5: the words by their fields, the reads because the read map answers nothing at a
reserved address. -/
theorem illegalCommands : Obligations.IllegalCommands := by
  refine ⟨decode_eq_error_iff_fields, fun w s ⟨e, he⟩ => executeWord_error he s,
    fun a s ha => ?_, fun a s ha => ?_⟩
  · have hreserved : commonAddress a = false := decide_eq_false (by omega)
    simp only [exec_rdSbus, exec_rdIbus, exec_rdSumd, readCommon_eq_none _ _ hreserved]
    exact ⟨rfl, rfl, rfl⟩
  · have hreserved : (commonAddress a || crsfAddress a) = false := by
      simp only [commonAddress, crsfAddress, Bool.or_eq_false_iff, Bool.and_eq_false_iff,
        decide_eq_false_iff_not]
      omega
    rw [exec_rdCrsf, readCrsf_eq_none _ _ hreserved]
    rfl

/-! ### What a received byte answers (R105) -/

@[simp] theorem Received.map_resp {α β : Type} (f : α → β) (r : Received α) :
    (r.map f).resp = r.resp := rfl

/-- What a received byte does, told by its answer: PUB and one frame published into the Channel Store,
or one of `others` and the store kept. -/
def Answers {σ : Type} {n cap : Nat} (now : Word) (others : List Word) (D : Decoder σ n cap)
    (r : Received (Decoder σ n cap)) : Prop :=
  (∃ v ∈ others, r.resp = respOk v ∧ r.decoder.SameStore D) ∨
  (r.resp = respOk 3 ∧ ∃ vals cls fl, r.decoder.SameStore (publish now vals cls fl D))

theorem Answers.quiet {σ : Type} {n cap : Nat} {now : Word} {others : List Word}
    {D E : Decoder σ n cap} (hmem : 0 ∈ others) (h : E.SameStore D) :
    Answers now others D (.quiet E) := .inl ⟨0, hmem, Received.resp_quiet E, h⟩

theorem sbusReceive_answers (p : Params) (now : Word) (b : Byte) (D : SbusDecoder) :
    Answers now [0] D (sbusReceive p now b D) := by
  rcases sbusReceive_cases p now b D with ⟨-, e⟩ | ⟨-, e⟩ | ⟨-, -, e⟩ | ⟨-, -, e⟩ <;> rw [e]
  · exact .quiet (by simp) (sbusHunt_sameStore p b D.clearGap)
  · exact .quiet (by simp) (.refl _)
  · exact .inr ⟨Received.resp_published _, _, _, _, publish_sameStore_congr _ _ _ _ (.refl _)⟩
  · exact .quiet (by simp) (framingError_sameStore _ _)

theorem ibusReceive_answers (p : Params) (now : Word) (b : Byte) (D : IbusDecoder) :
    Answers now [0] D (ibusReceive p now b D) := by
  have hstore : (ibusStore b D.clearGap).SameStore D := ibusStore_sameStore b D.clearGap
  rcases ibusReceive_cases p now b D with ⟨-, e⟩ | ⟨-, e⟩ | ⟨-, -, e⟩ | ⟨-, -, -, e⟩ | ⟨-, -, -, e⟩ <;>
    rw [e]
  · exact .quiet (by simp) (ibusHunt_sameStore p b D.clearGap)
  · exact .quiet (by simp) (ibusHeader_sameStore p b D.clearGap)
  · exact .quiet (by simp) hstore
  · exact .inr ⟨Received.resp_published _, _, _, _, publish_sameStore_congr _ _ _ _ hstore⟩
  · exact .quiet (by simp) hstore

theorem crsfReceive_answers (p : Params) (now : Word) (b : Byte) (D : CrsfDecoder) (m : Mirror) :
    Answers now [0, 1] D ((crsfReceive p now b D m).map CrsfUnit.decoder) := by
  have hstore : (crsfStore p b D.clearGap).SameStore D := crsfStore_sameStore p b D.clearGap
  rcases crsfReceive_cases p now b D m with
    ⟨-, e⟩ | ⟨-, e⟩ | ⟨-, -, e⟩ | ⟨-, -, E, F, rfl, rfl, hlast⟩
  · rw [e]
    exact .quiet (by simp) (crsfHunt_sameStore p b D.clearGap)
  · rw [e]
    exact .quiet (by simp) (crsfLength_sameStore p b D.clearGap)
  · rw [e]
    exact .quiet (by simp) hstore
  · rcases hlast with ⟨-, e⟩ | ⟨-, -, -, e⟩ | ⟨-, -, -, e⟩ | ⟨-, -, e⟩ <;> rw [e]
    · exact .quiet (by simp) hstore
    · exact .inr ⟨Received.resp_published _, _, _, _, publish_sameStore_congr _ _ _ _ hstore⟩
    · exact .inl ⟨1, by simp, Received.resp_frameOnly _, hstore⟩
    · exact .inl ⟨1, by simp, Received.resp_frameOnly _, hstore⟩

theorem sumdReceive_answers (p : Params) (now : Word) (b : Byte) (D : SumdDecoder) :
    Answers now [0] D (sumdReceive p now b D) := by
  have hstore : (sumdStore p b D.clearGap).SameStore D := sumdStore_sameStore p b D.clearGap
  rcases sumdReceive_cases p now b D with ⟨-, e⟩ | ⟨-, e⟩ | ⟨-, e⟩ | ⟨-, E, rfl, hlast⟩
  · rw [e]
    exact .quiet (by simp) (sumdHunt_sameStore p b D.clearGap)
  · rw [e]
    exact .quiet (by simp) (sumdStatus_sameStore p b D.clearGap)
  · rw [e]
    exact .quiet (by simp) (sumdCount_sameStore p b D.clearGap)
  · rcases hlast with ⟨-, e⟩ | ⟨-, -, e⟩ | ⟨-, -, e⟩ <;> rw [e]
    · exact .quiet (by simp) hstore
    · exact .inr ⟨Received.resp_published _, _, _, _, publish_sameStore_congr _ _ _ _ hstore⟩
    · exact .quiet (by simp) hstore

theorem Answers.value {σ : Type} {n cap : Nat} {now : Word} {others : List Word}
    {D : Decoder σ n cap} {r : Received (Decoder σ n cap)} (h : Answers now others D r) :
    r.resp.value ∈ others ∨ r.resp.value = 3 := by
  rcases h with ⟨v, hv, hresp, -⟩ | ⟨hresp, -⟩ <;> rw [hresp]
  · exact .inl hv
  · exact .inr rfl

/-! ### The response of every command (R104, R105) -/

/-- The response to a read, `legal` saying whether the read map has the address. -/
theorem readAnswer_cases {o : Option Word} {legal : Bool} (h : o.isSome = legal) :
    (legal = true ∧ (readAnswer o).status = .ok) ∨ (legal = false ∧ readAnswer o = respIllegal) := by
  subst h
  cases o with
  | none => exact .inr ⟨rfl, rfl⟩
  | some w => exact .inl ⟨rfl, rfl⟩

/-- A well-formed command answers OK, any other command is a read of a reserved address and answers
`(ILLEGAL, 0)` (R410). -/
theorem exec_resp_cases {i : Instr} {s t : State} (h : exec i s = .next t) :
    (i.wellFormed = true ∧ t.resp.status = .ok) ∨ (i.wellFormed = false ∧ t.resp = respIllegal) := by
  cases i with
  | rdSbus a =>
    rw [exec_rdSbus] at h
    cases h
    exact readAnswer_cases (readCommon_isSome ..)
  | rdIbus a =>
    rw [exec_rdIbus] at h
    cases h
    exact readAnswer_cases (readCommon_isSome ..)
  | rdCrsf a =>
    rw [exec_rdCrsf] at h
    cases h
    exact readAnswer_cases (readCrsf_isSome ..)
  | rdSumd a =>
    rw [exec_rdSumd] at h
    cases h
    exact readAnswer_cases (readCommon_isSome ..)
  | _ =>
    cases h
    exact .inl ⟨rfl, rfl⟩

/-- Settles O32: the status by `exec_resp_cases`, the values of an RX by what its receiver answers. -/
theorem responsesHaveTheirShape : Obligations.ResponsesHaveTheirShape := by
  intro i s t h
  refine ⟨?_, ?_, ?_, ?_, ?_⟩
  · rcases exec_resp_cases h with ⟨hi, ht⟩ | ⟨hi, ht⟩ <;> simp [hi, ht, respIllegal]
  · rcases exec_resp_cases h with ⟨-, ht⟩ | ⟨-, ht⟩ <;> simp [ht, respIllegal]
  · rintro b (rfl | rfl | rfl) <;> cases h
    · exact (sbusReceive_answers s.params s.ticks b s.sbus).value.imp_left List.mem_singleton.1
    · exact (ibusReceive_answers s.params s.ticks b s.ibus).value.imp_left List.mem_singleton.1
    · exact (sumdReceive_answers s.params s.ticks b s.sumd).value.imp_left List.mem_singleton.1
  · rintro b rfl
    cases h
    have hvalue := (crsfReceive_answers s.params s.ticks b s.crsf s.mirror).value
    simpa [or_assoc] using hvalue
  · intro hi
    simp only [List.mem_cons, List.not_mem_nil, or_false] at hi
    rcases hi with rfl | rfl | rfl | rfl | rfl | rfl | rfl <;> cases h <;> rfl

end Sys2Proof.Machine
end

section
/-! SUPPORT. Words written out, a step, and lines of assembly (R101, R107, R114). -/

namespace Sys2Proof.Machine

/-- Settles O1: each word is the encoding of its command. -/
theorem sampleWordsDecode : Obligations.SampleWordsDecode := by
  simp only [Obligations.SampleWordsDecode, decode_eq_ok_iff]
  decide

/-- Settles O6. -/
theorem stepRunsTheDecodedCommand : Obligations.StepRunsTheDecodedCommand :=
  fun _ _ _ _ hq hd => (step_of_cons hq).trans (executeWord_ok hd _)

/-- Settles O7. -/
theorem stepAnswersIllegalWords : Obligations.StepAnswersIllegalWords :=
  fun _ _ _ _ hq hd => (step_of_cons hq).trans (executeWord_error hd _)

/-- Settles O60: the lines are fixed, and none of their commands reads a parameter. -/
theorem assemblyExamples : Obligations.AssemblyExamples := fun _ => ⟨rfl, rfl, rfl, rfl, rfl⟩

end Sys2Proof.Machine
end

section
/-! SUPPORT. A clock edge (R108): the places of its order one by one, the commands an edge is the run
of, and what each place leaves of the parts it does not act on. -/

namespace Sys2Proof.Machine

/-! ### The places of an edge's order -/

theorem executeWord_encode (i : Instr) (s : State) : executeWord (encode i) s = exec i s :=
  executeWord_ok (decodeOfEncode i) s

theorem executeWord_total (w : CmdWord) (s : State) : ∃ t, executeWord w s = .next t := by
  cases hd : decode w with
  | ok i => simpa only [executeWord_ok hd] using exec_total i s
  | error e => exact ⟨_, executeWord_error hd s⟩

/-- Running words that are encodings is running their commands. -/
theorem executeWords_map_encode (is : List Instr) (s : State) :
    executeWords (is.map encode) s = execAll is s := by
  induction is generalizing s with
  | nil => rfl
  | cons i is ih =>
    rw [List.map_cons, executeWords_cons, execAll_cons, executeWord_encode]
    cases exec i s with
    | next t => exact ih t
    | fault r => rfl
    | refused r => rfl

/-- A place of the order completes: it runs the word that stands there, if any, and gives that word's
response. -/
theorem portStage_total (w : Option CmdWord) (s : State) : ∃ t,
    executeWords w.toList s = .next t ∧ portStage w s = .next (t, w.map fun _ => t.resp) := by
  cases w with
  | none => exact ⟨s, rfl, rfl⟩
  | some w =>
    obtain ⟨t, ht⟩ := executeWord_total w s
    exact ⟨t, by simp [ht], by simp [portStage, ht]⟩

theorem portStage_encode (i : Instr) (s : State) :
    ∃ t, exec i s = .next t ∧ portStage (some (encode i)) s = .next (t, some t.resp) := by
  obtain ⟨t, ht⟩ := exec_total i s
  exact ⟨t, ht, by simp [portStage, executeWord_encode, ht]⟩

/-- The place of the TICK. -/
theorem portStage_tick (tick : Bool) (s : State) : ∃ t r,
    execAll (if tick then [.tick] else []) s = .next t ∧
    portStage (if tick then some (encode .tick) else none) s = .next (t, r) := by
  cases tick with
  | false => exact ⟨s, none, rfl, rfl⟩
  | true =>
    obtain ⟨t, ht, hstage⟩ := portStage_encode .tick s
    exact ⟨t, _, by simpa using ht, hstage⟩

/-- The place of a decoder's RX: its pulse is bit 1 of the response, and there is none without a
byte. -/
theorem portStage_rx (rx : Byte → Instr) (byte : Option Byte) (s : State) : ∃ t r,
    execAll (byte.map rx).toList s = .next t ∧
    portStage (byte.map fun b => encode (rx b)) s = .next (t, r) ∧
    pubPulse r = (byte.isSome && t.resp.value.getLsbD 1) := by
  cases byte with
  | none => exact ⟨s, none, rfl, rfl, rfl⟩
  | some b =>
    obtain ⟨t, ht, hstage⟩ := portStage_encode (rx b) s
    exact ⟨t, some t.resp, by simp [ht], hstage, by simp [pubPulse]⟩

/-- An edge with `rst` runs RESET and nothing else. -/
theorem clockEdge_of_rst {e : PortInput} (h : e.rst = true) (s : State) :
    clockEdge e s = .next (((State.resetWith s.params).setPending s.pending).setResp (respOk 0),
      ⟨none, false, false, false, false⟩) := by
  rw [clockEdge, if_pos h, executeWord_encode]
  rfl

/-- The words of an edge without `rst`, those of the edge's own commands as commands. -/
theorem portCommands_of_not_rst {e : PortInput} (h : e.rst = false) : portCommands e =
    e.readCmd.toList ++ (if e.tick then [Instr.tick] else []).map encode ++
    (e.rxSbus.map Instr.rxSbus).toList.map encode ++ (e.rxIbus.map Instr.rxIbus).toList.map encode ++
    (e.rxCrsf.map Instr.rxCrsf).toList.map encode ++ (e.rxSumd.map Instr.rxSumd).toList.map encode ++
    e.otherCmd.toList := by
  rw [portCommands, h]
  cases e.tick <;> cases e.rxSbus <;> cases e.rxIbus <;> cases e.rxCrsf <;> cases e.rxSumd <;> rfl

/-- The response of a `cmd` word, that ran either first or last. -/
theorem cmd_resp (cmd : Option CmdWord) (r r' : Response) :
    ((cmd.filter isReadWord).map fun _ => r).or
      ((cmd.filter fun w => !isReadWord w).map fun _ => r') =
    cmd.map fun w => if isReadWord w then r else r' := by
  cases cmd with
  | none => rfl
  | some w => cases h : isReadWord w <;> simp [Option.filter, h]

/-- Settles O55: the places of `clockEdge` complete one by one, and run the words of `portCommands`. -/
theorem edgeRunsItsCommandsInOrder : Obligations.EdgeRunsItsCommandsInOrder := by
  intro e s
  cases hrst : e.rst with
  | true =>
    refine ⟨_, _, clockEdge_of_rst hrst s, ?_, fun _ => ⟨exec_reset s, rfl⟩, nofun⟩
    rw [portCommands, if_pos hrst, executeWords_cons, executeWord_encode]
    rfl
  | false =>
    obtain ⟨s1, run1, stage1⟩ := portStage_total e.readCmd s
    obtain ⟨s2, r, run2, stage2⟩ := portStage_tick e.tick s1
    obtain ⟨s3, p0, run3, stage3, pub0⟩ := portStage_rx .rxSbus e.rxSbus s2
    obtain ⟨s4, p1, run4, stage4, pub1⟩ := portStage_rx .rxIbus e.rxIbus s3
    obtain ⟨s5, p2, run5, stage5, pub2⟩ := portStage_rx .rxCrsf e.rxCrsf s4
    obtain ⟨s6, p3, run6, stage6, pub3⟩ := portStage_rx .rxSumd e.rxSumd s5
    obtain ⟨t, run7, stage7⟩ := portStage_total e.otherCmd s6
    have hedge : clockEdge e s = .next (t,
        ⟨e.cmd.map fun w => if isReadWord w then s1.resp else t.resp,
          pubPulse p0, pubPulse p1, pubPulse p2, pubPulse p3⟩) := by
      simp only [clockEdge, hrst, Bool.false_eq_true, if_false, stage1, stage2, stage3, stage4,
        stage5, stage6, stage7, andThen_next, ← cmd_resp]
      rfl
    have hwords : executeWords (portCommands e) s = .next t := by
      simp only [portCommands_of_not_rst hrst, executeWords_append, executeWords_map_encode, run1,
        run2, run3, run4, run5, run6, run7, andThen_next]
    exact ⟨t, _, hedge, hwords, nofun, fun _ => ⟨s1, s2, s3, s4, s5, s6, run1, run2, run3, run4, run5,
      run6, run7, pub0, pub1, pub2, pub3, fun w hw => by rw [hw]; rfl, fun hw => by rw [hw]; rfl⟩⟩

/-- Settles O59. -/
theorem edgeResetOverridesAll : Obligations.EdgeResetOverridesAll :=
  fun _ s h => ⟨_, clockEdge_of_rst h s⟩

end Sys2Proof.Machine
end

section
/-! SUPPORT. What a clock edge does to one decoder (R108, R497): the bytes of the other decoders and a
read on `cmd` make no difference to it, so its byte runs as it would alone. -/

namespace Sys2Proof.Machine

/-! ### Runs of at most one command -/

theorem execAll_singleton (i : Instr) (s : State) : execAll [i] s = exec i s := by
  rw [execAll_cons]
  cases exec i s <;> rfl

theorem executeWords_singleton (w : CmdWord) (s : State) :
    executeWords [w] s = executeWord w s := by
  rw [executeWords_cons]
  cases executeWord w s <;> rfl

/-- The place of a `cmd` word that stands there. -/
theorem executeWords_filter_pos {p : CmdWord → Bool} {w : CmdWord} (h : p w = true) (s : State) :
    executeWords ((some w).filter p).toList s = executeWord w s := by
  rw [Option.filter_some_pos h]
  exact executeWords_singleton w s

/-- The place of a `cmd` word that stands elsewhere. -/
theorem executeWords_filter_neg {p : CmdWord → Bool} {w : CmdWord} (h : p w = false) (s : State) :
    executeWords ((some w).filter p).toList s = .next s := by
  rw [Option.filter_some_neg (by simp [h])]
  rfl

/-! ### Reads on the `cmd` port -/

/-- The reads of R108. -/
theorem isReadWord_iff (w : CmdWord) : isReadWord w = true ↔
    (∃ a, decode w = .ok (.rdSbus a) ∨ decode w = .ok (.rdIbus a) ∨ decode w = .ok (.rdCrsf a) ∨
      decode w = .ok (.rdSumd a)) ∨
    decode w = .ok .rdTime ∨ decode w = .ok .crc8Rd := by
  unfold isReadWord
  cases decode w with
  | error e => simp
  | ok i => cases i <;> simp

/-- A read changes the response alone (R73). -/
theorem executeWord_of_read {w : CmdWord} (hw : isReadWord w = true) {s u : State}
    (h : executeWord w s = .next u) : ∃ r, u = s.setResp r := by
  rcases (isReadWord_iff w).1 hw with ⟨a, hd | hd | hd | hd⟩ | hd | hd <;>
    rw [executeWord_ok hd] at h <;> simp at h <;> exact ⟨_, h.symm⟩

/-- The first place of an edge changes the response at most. -/
theorem readCmd_frame {cmd : Option CmdWord} {s u : State}
    (h : executeWords (cmd.filter isReadWord).toList s = .next u) : ∃ r, u = s.setResp r := by
  cases hf : cmd.filter isReadWord with
  | none =>
    rw [hf] at h
    cases h
    exact ⟨s.resp, rfl⟩
  | some w =>
    rw [hf] at h
    exact executeWord_of_read (Option.filter_eq_some_iff.1 hf).2
      ((executeWords_singleton w s).symm.trans h)

/-- Settles O56: by the order of the edge's commands, the read runs in the state before the edge. -/
theorem edgeReadSeesTheOldState : Obligations.EdgeReadSeesTheOldState := by
  refine ⟨isReadWord_iff, fun e w s u t o hrst hcmd hw hu hedge => ?_⟩
  obtain ⟨t', o', hedge', -, -, hrun⟩ := edgeRunsItsCommandsInOrder e s
  cases hedge'.symm.trans hedge
  obtain ⟨s1, -, -, -, -, -, run1, -, -, -, -, -, -, -, -, -, -, hresp, -⟩ := hrun hrst
  rw [hcmd, executeWords_filter_pos hw, hu] at run1
  cases run1
  rw [hresp w hcmd, if_pos hw]

/-! ### The byte of a decoder runs as it would alone -/

theorem State.PartEq.refl (a : Nat) (s : State) : s.PartEq a s := by
  unfold State.PartEq
  split <;> trivial

theorem State.SharedEq.refl (s : State) : s.SharedEq s := ⟨rfl, rfl, rfl⟩

/-- The response of a command of part `a` is fixed by that part and the shared fields. -/
theorem exec_resp_congr {i : Instr} {a : Nat} {s s' t t' : State} (hi : partOf i = some a)
    (hs : s.SharedEq s') (ha : s.PartEq a s') (h : exec i s = .next t)
    (h' : exec i s' = .next t') : t.resp = t'.resp := by
  obtain ⟨hparams, hticks, -⟩ := hs
  cases i <;> cases hi <;> cases h <;> cases h' <;> simp_all [State.PartEq]

/-- The place of a byte of part `a` keeps the other parts. -/
theorem rx_keeps_otherParts {rx : Byte → Instr} {a : Nat} (hrx : ∀ b, partOf (rx b) = some a)
    {byte : Option Byte} {s t : State} (h : execAll (byte.map rx).toList s = .next t) :
    s.SharedEq t ∧ ∀ c, c ≠ a → s.PartEq c t := by
  cases byte with
  | none =>
    cases h
    exact ⟨.refl s, fun c _ => .refl c s⟩
  | some b => exact exec_keeps_otherParts (hrx b) ((execAll_singleton (rx b) s).symm.trans h)

/-- Between `s` and `t` part `a` changed as `i` alone changes it, and `i` gave the pulse `pub`. -/
def RanAlone (i : Instr) (a : Nat) (s t : State) (pub : Bool) : Prop :=
  ∀ u, exec i s = .next u → u.PartEq a t ∧ pub = u.resp.value.getLsbD 1

/-- A byte that finds its part as it was in `s` and leaves it as it is in `t` ran alone. -/
theorem RanAlone.of_run {rx : Byte → Instr} {a : Nat} (hrx : ∀ b, partOf (rx b) = some a)
    {byte : Option Byte} {s v v' t : State} {pub : Bool} (shared : s.SharedEq v)
    (before : s.PartEq a v) (run : execAll (byte.map rx).toList v = .next v')
    (after : v'.PartEq a t) (hpub : pub = (byte.isSome && v'.resp.value.getLsbD 1)) :
    ∀ b, byte = some b → RanAlone (rx b) a s t pub := by
  rintro b rfl u hu
  have run : exec (rx b) v = .next v' := (execAll_singleton (rx b) v).symm.trans run
  refine ⟨(exec_part_congr (hrx b) shared before hu run).trans after, ?_⟩
  rw [exec_resp_congr (hrx b) shared before hu run, hpub]
  rfl

/-- Every byte of an edge ran alone, between the TICK's place and that of the last `cmd` word. -/
def BytesRanAlone (e : PortInput) (s t : State) (o : PortOutput) : Prop :=
  (∀ b, e.rxSbus = some b → RanAlone (.rxSbus b) 0 s t o.pubSbus) ∧
  (∀ b, e.rxIbus = some b → RanAlone (.rxIbus b) 1 s t o.pubIbus) ∧
  (∀ b, e.rxCrsf = some b → RanAlone (.rxCrsf b) 2 s t o.pubCrsf) ∧
  (∀ b, e.rxSumd = some b → RanAlone (.rxSumd b) 3 s t o.pubSumd)

/-- An edge without `rst`, its bytes taken together: each finds its decoder as the TICK's place left
it, and the last `cmd` word finds what it left. -/
theorem clockEdge_runs_bytes {e : PortInput} (hrst : e.rst = false) (s : State) :
    ∃ s1 s2 s6 t o, clockEdge e s = .next (t, o) ∧
      executeWords (e.cmd.filter isReadWord).toList s = .next s1 ∧
      execAll (if e.tick then [.tick] else []) s1 = .next s2 ∧
      BytesRanAlone e s2 s6 o ∧
      executeWords (e.cmd.filter fun w => !isReadWord w).toList s6 = .next t ∧
      (∀ w, e.cmd = some w → o.resp = some (if isReadWord w then s1.resp else t.resp)) := by
  obtain ⟨t, o, hedge, -, -, hrun⟩ := edgeRunsItsCommandsInOrder e s
  obtain ⟨s1, s2, s3, s4, s5, s6, run1, run2, run3, run4, run5, run6, run7, pub0, pub1, pub2, pub3,
    hresp, -⟩ := hrun hrst
  refine ⟨s1, s2, s6, t, o, hedge, run1, run2, ?_, run7, hresp⟩
  obtain ⟨shared3, keep3⟩ := rx_keeps_otherParts (a := 0) (fun _ => rfl) run3
  obtain ⟨shared4, keep4⟩ := rx_keeps_otherParts (a := 1) (fun _ => rfl) run4
  obtain ⟨shared5, keep5⟩ := rx_keeps_otherParts (a := 2) (fun _ => rfl) run5
  obtain ⟨-, keep6⟩ := rx_keeps_otherParts (a := 3) (fun _ => rfl) run6
  exact ⟨.of_run (fun _ => rfl) (.refl s2) (.refl 0 s2) run3
      (((keep4 0 (by decide)).trans (keep5 0 (by decide))).trans (keep6 0 (by decide))) pub0,
    .of_run (fun _ => rfl) shared3 (keep3 1 (by decide)) run4
      ((keep5 1 (by decide)).trans (keep6 1 (by decide))) pub1,
    .of_run (fun _ => rfl) (shared3.trans shared4) ((keep3 2 (by decide)).trans (keep4 2 (by decide)))
      run5 (keep6 2 (by decide)) pub2,
    .of_run (fun _ => rfl) ((shared3.trans shared4).trans shared5)
      (((keep3 3 (by decide)).trans (keep4 3 (by decide))).trans (keep5 3 (by decide))) run6
      (.refl 3 s6) pub3⟩

/-! ### A byte on the edge of the TICK that fires its timeout (R497) -/

section
variable {σ : Type} {n cap : Nat}

/-- A TICK on which the byte timeout fires drops the partial frame and counts it (R402, R454). -/
theorem tickDecoder_of_gapFires {P : Protocol σ} {p : Params} {D : Decoder σ n cap}
    (h : GapFires P p D) :
    (tickDecoder P p D).st = P.initial ∧ (tickDecoder P p D).idx = 0 ∧
    (tickDecoder P p D).exp = 0 ∧ (tickDecoder P p D).frmErr = D.frmErr + 1 ∧
    (tickDecoder P p D).frames = D.frames := by
  obtain ⟨hidle, ht, hgap⟩ := h
  have hfires : gapStep P p D = byteTimeout P D := by
    unfold gapStep
    rw [hidle, if_neg (by decide), if_neg ht, if_pos hgap]
    rfl
  rw [tickDecoder, hfires]
  rcases staleStep_cases P p (byteTimeout P D) with ⟨-, e⟩ | ⟨-, -, -, e⟩ | ⟨-, -, -, e⟩ <;> rw [e] <;>
    exact ⟨rfl, rfl, rfl, rfl, rfl⟩

/-- A decoder `E` that hunts, as a byte judged in the idle state leaves it, after the partial frame of
`D` was aborted and counted. -/
def HuntsAfterTimeout (st : σ) (idx : BitVec 8) (D E : Decoder σ n cap) : Prop :=
  E.frames = D.frames ∧ E.frmErr = D.frmErr + 1 ∧ E.exp = 0 ∧ E.gap = 0 ∧ E.idx = idx ∧ E.st = st

end

theorem sbusReceive_after_timeout {p : Params} {D : SbusDecoder} (h : GapFires sbusProtocol p D)
    (now : Word) (b : Byte) : ∃ E, sbusReceive p now b (tickDecoder sbusProtocol p D) = .quiet E ∧
      HuntsAfterTimeout (if b = p.sbusStart then .data else .undefined) 0 D E := by
  obtain ⟨hst, hidx, hexp, hfrm, hframes⟩ := tickDecoder_of_gapFires h
  refine ⟨_, sbusReceive_of_undefined p now b hst, ?_⟩
  unfold sbusHunt
  split
  · exact ⟨hframes, hfrm, hexp, rfl, rfl, rfl⟩
  · exact ⟨hframes, hfrm, hexp, rfl, hidx, rfl⟩

theorem ibusReceive_after_timeout {p : Params} {D : IbusDecoder} (h : GapFires ibusProtocol p D)
    (now : Word) (b : Byte) : ∃ E, ibusReceive p now b (tickDecoder ibusProtocol p D) = .quiet E ∧
      HuntsAfterTimeout (if b = p.ibusHdr0 then .hdr else .idle) (if b = p.ibusHdr0 then 1 else 0)
        D E := by
  obtain ⟨hst, hidx, hexp, hfrm, hframes⟩ := tickDecoder_of_gapFires h
  refine ⟨_, ibusReceive_of_idle p now b hst, ?_⟩
  unfold ibusHunt
  split
  · exact ⟨hframes, hfrm, hexp, rfl, rfl, rfl⟩
  · exact ⟨hframes, hfrm, hexp, rfl, hidx, hst⟩

theorem crsfReceive_after_timeout {p : Params} {D : CrsfDecoder} (h : GapFires crsfProtocol p D)
    (now : Word) (b : Byte) (m : Mirror) : ∃ E,
      crsfReceive p now b (tickDecoder crsfProtocol p D) m = .quiet ⟨E, m⟩ ∧
      HuntsAfterTimeout (if b = p.crsfSync then .len else .sync) 0 D E := by
  obtain ⟨hst, hidx, hexp, hfrm, hframes⟩ := tickDecoder_of_gapFires h
  refine ⟨_, crsfReceive_of_sync p now b m hst, ?_⟩
  unfold crsfHunt
  split
  · exact ⟨hframes, hfrm, hexp, rfl, hidx, rfl⟩
  · exact ⟨hframes, hfrm, hexp, rfl, hidx, hst⟩

theorem sumdReceive_after_timeout {p : Params} {D : SumdDecoder} (h : GapFires sumdProtocol p D)
    (now : Word) (b : Byte) : ∃ E, sumdReceive p now b (tickDecoder sumdProtocol p D) = .quiet E ∧
      HuntsAfterTimeout (if b = p.sumdSync then .status else .sync) 0 D E := by
  obtain ⟨hst, hidx, hexp, hfrm, hframes⟩ := tickDecoder_of_gapFires h
  refine ⟨_, sumdReceive_of_sync p now b hst, ?_⟩
  unfold sumdHunt
  split
  · exact ⟨hframes, hfrm, hexp, rfl, hidx, rfl⟩
  · exact ⟨hframes, hfrm, hexp, rfl, hidx, hst⟩

/-- A byte that completes no frame gives no pulse. -/
theorem Received.pulse_quiet {α : Type} (D : α) :
    (Received.quiet D).resp.value.getLsbD 1 = false := by
  rw [Received.resp_quiet]
  rfl

section
variable {b : Byte} {s t : State} {pub : Bool}

theorem RanAlone.sbus_quiet {E : SbusDecoder} (h : RanAlone (.rxSbus b) 0 s t pub)
    (hE : sbusReceive s.params s.ticks b s.sbus = .quiet E) : t.sbus = E ∧ pub = false := by
  obtain ⟨hpart, hpub⟩ := h _ (exec_rxSbus b s)
  rw [hE] at hpart hpub
  exact ⟨hpart.symm, hpub.trans (Received.pulse_quiet E)⟩

theorem RanAlone.ibus_quiet {E : IbusDecoder} (h : RanAlone (.rxIbus b) 1 s t pub)
    (hE : ibusReceive s.params s.ticks b s.ibus = .quiet E) : t.ibus = E ∧ pub = false := by
  obtain ⟨hpart, hpub⟩ := h _ (exec_rxIbus b s)
  rw [hE] at hpart hpub
  exact ⟨hpart.symm, hpub.trans (Received.pulse_quiet E)⟩

theorem RanAlone.crsf_quiet {U : CrsfUnit} (h : RanAlone (.rxCrsf b) 2 s t pub)
    (hU : crsfReceive s.params s.ticks b s.crsf s.mirror = .quiet U) :
    t.crsf = U.decoder ∧ t.mirror = U.mirror ∧ pub = false := by
  obtain ⟨⟨hcrsf, hmirror⟩, hpub⟩ := h _ (exec_rxCrsf b s)
  rw [hU] at hcrsf hmirror hpub
  exact ⟨hcrsf.symm, hmirror.symm, hpub.trans (Received.pulse_quiet U)⟩

theorem RanAlone.sumd_quiet {E : SumdDecoder} (h : RanAlone (.rxSumd b) 3 s t pub)
    (hE : sumdReceive s.params s.ticks b s.sumd = .quiet E) : t.sumd = E ∧ pub = false := by
  obtain ⟨hpart, hpub⟩ := h _ (exec_rxSumd b s)
  rw [hE] at hpart hpub
  exact ⟨hpart.symm, hpub.trans (Received.pulse_quiet E)⟩

end

/-- An edge with TICK and nothing but a read on `cmd`: its bytes ran alone, from the TICK's state to
the state the edge leaves. -/
theorem clockEdge_tick_then_bytes {e : PortInput} (hrst : e.rst = false) (htick : e.tick = true)
    (hread : ∀ w, e.cmd = some w → isReadWord w = true) (s : State) :
    ∃ r t o, clockEdge e s = .next (t, o) ∧ BytesRanAlone e (s.advance.setResp r) t o := by
  obtain ⟨s1, s2, s6, t, o, hedge, run1, run2, hbytes, run7, -⟩ := clockEdge_runs_bytes hrst s
  obtain ⟨r, rfl⟩ := readCmd_frame run1
  rw [htick, if_pos rfl, execAll_singleton, exec_tick] at run2
  cases run2
  have hnone : (e.cmd.filter fun w => !isReadWord w) = none := by
    rw [Option.filter_eq_none_iff]
    intro w hw
    simp [hread w hw]
  rw [hnone] at run7
  cases run7
  exact ⟨respOk 0, _, o, hedge, hbytes⟩

/-- Settles O57: the TICK leaves the decoder idle, its frame dropped and counted, and the byte, which
then runs as it would alone, hunts. -/
theorem edgeByteIsTooLateForItsTick : Obligations.EdgeByteIsTooLateForItsTick := by
  intro e s b hrst htick hread
  obtain ⟨r, t, o, hedge, hsbus, hibus, hcrsf, hsumd⟩ := clockEdge_tick_then_bytes hrst htick hread s
  refine ⟨t, o, hedge, fun hb hfires => ?_, fun hb hfires => ?_, fun hb hfires => ?_,
    fun hb hfires => ?_⟩
  · obtain ⟨E, hE, hframes, hfrm, hexp, hgap, hidx, hst⟩ :=
      sbusReceive_after_timeout hfires (s.ticks + 1) b
    obtain ⟨rfl, hpub⟩ := (hsbus b hb).sbus_quiet hE
    exact ⟨hpub, hframes, hfrm, hexp, hgap, hidx, hst⟩
  · obtain ⟨E, hE, hframes, hfrm, hexp, hgap, hidx, hst⟩ :=
      ibusReceive_after_timeout hfires (s.ticks + 1) b
    obtain ⟨rfl, hpub⟩ := (hibus b hb).ibus_quiet hE
    exact ⟨hpub, hframes, hfrm, hexp, hgap, hidx, hst⟩
  · obtain ⟨E, hE, hframes, hfrm, hexp, hgap, hidx, hst⟩ :=
      crsfReceive_after_timeout hfires (s.ticks + 1) b s.mirror
    obtain ⟨rfl, hmirror, hpub⟩ := (hcrsf b hb).crsf_quiet hE
    exact ⟨hpub, hframes, hfrm, hexp, hgap, hidx, hmirror, hst⟩
  · obtain ⟨E, hE, hframes, hfrm, hexp, hgap, hidx, hst⟩ :=
      sumdReceive_after_timeout hfires (s.ticks + 1) b
    obtain ⟨rfl, hpub⟩ := (hsumd b hb).sumd_quiet hE
    exact ⟨hpub, hframes, hfrm, hexp, hgap, hidx, hst⟩

/-! ### An ABORT on the edge of a byte (R497) -/

/-- What an ABORT leaves after a byte, told by the byte's answer. -/
theorem Answers.abortedAfterByte {σ : Type} {n cap : Nat} {now : Word} {others : List Word}
    {D : Decoder σ n cap} {r : Received (Decoder σ n cap)} (h : Answers now others D r)
    (hothers : ∀ v ∈ others, v.getLsbD 1 = false) (P : Protocol σ) :
    AbortedAfterByte P.initial (r.resp.value.getLsbD 1) r.resp D r.decoder (restart P r.decoder) := by
  refine ⟨rfl, fun hresp => ?_, fun hresp => ?_⟩
  · rcases h with ⟨v, hv, hanswer, -⟩ | ⟨-, vals, cls, fl, hstore⟩
    · have hpub : (3 : Word).getLsbD 1 = false := by
        have hv3 : v = 3 := congrArg Response.value (hanswer.symm.trans hresp)
        exact hv3 ▸ hothers v hv
      exact absurd hpub (by decide)
    · obtain ⟨-, -, -, hvalid, hhas, hage, -, hframes⟩ := hstore
      exact ⟨by rw [hresp]; rfl, hvalid, hhas, hage, hframes⟩
  · rcases h with ⟨v, hv, hanswer, hstore⟩ | ⟨hanswer, -⟩
    · exact ⟨by rw [hanswer]; exact hothers v hv, hstore⟩
    · exact absurd hanswer hresp

/-- An edge with a command that is no read and no TICK: its bytes ran alone from the state before the
edge, and the command ran after them and answers. -/
theorem clockEdge_bytes_then_cmd {e : PortInput} (hrst : e.rst = false) (htick : e.tick = false)
    (s : State) : ∃ s6 t o, clockEdge e s = .next (t, o) ∧
      ∀ i, e.cmd = some (encode i) → isReadWord (encode i) = false →
        BytesRanAlone e s s6 o ∧ exec i s6 = .next t ∧ o.resp = some t.resp := by
  obtain ⟨s1, s2, s6, t, o, hedge, run1, run2, hbytes, run7, hresp⟩ := clockEdge_runs_bytes hrst s
  refine ⟨s6, t, o, hedge, fun i hcmd hread => ?_⟩
  rw [hcmd, executeWords_filter_neg hread] at run1
  cases run1
  rw [htick] at run2
  cases run2
  rw [hcmd, executeWords_filter_pos (by simp [hread]), executeWord_encode] at run7
  exact ⟨hbytes, run7, by rw [hresp _ hcmd, hread]; rfl⟩

/-- Settles O58: the ABORT finds its decoder as the byte alone leaves it. -/
theorem edgeAbortRunsAfterTheByte : Obligations.EdgeAbortRunsAfterTheByte := by
  intro e s u b hrst htick
  obtain ⟨s6, t, o, hedge, hcmd⟩ := clockEdge_bytes_then_cmd hrst htick s
  refine ⟨t, o, hedge, fun habort hb hu => ?_, fun habort hb hu => ?_, fun habort hb hu => ?_,
    fun habort hb hu => ?_⟩
  · obtain ⟨⟨hbyte, -⟩, hrun, hresp⟩ := hcmd .abortSbus habort (by decide)
    obtain ⟨hpart, hpub⟩ := hbyte b hb u hu
    cases hrun
    refine ⟨hresp, ?_⟩
    rw [hpub, State.setResp_sbus, State.setSbus_sbus, ← hpart]
    cases hu
    exact (sbusReceive_answers s.params s.ticks b s.sbus).abortedAfterByte (by simp) sbusProtocol
  · obtain ⟨⟨-, hbyte, -⟩, hrun, hresp⟩ := hcmd .abortIbus habort (by decide)
    obtain ⟨hpart, hpub⟩ := hbyte b hb u hu
    cases hrun
    refine ⟨hresp, ?_⟩
    rw [hpub, State.setResp_ibus, State.setIbus_ibus, ← hpart]
    cases hu
    exact (ibusReceive_answers s.params s.ticks b s.ibus).abortedAfterByte (by simp) ibusProtocol
  · obtain ⟨⟨-, -, hbyte, -⟩, hrun, hresp⟩ := hcmd .abortCrsf habort (by decide)
    obtain ⟨⟨hpart, hmirror⟩, hpub⟩ := hbyte b hb u hu
    cases hrun
    refine ⟨hresp, hmirror.symm, ?_⟩
    rw [hpub, State.setResp_crsf, State.setCrsf_crsf, ← hpart]
    cases hu
    exact (crsfReceive_answers s.params s.ticks b s.crsf s.mirror).abortedAfterByte (by simp)
      crsfProtocol
  · obtain ⟨⟨-, -, -, hbyte⟩, hrun, hresp⟩ := hcmd .abortSumd habort (by decide)
    obtain ⟨hpart, hpub⟩ := hbyte b hb u hu
    cases hrun
    refine ⟨hresp, ?_⟩
    rw [hpub, State.setResp_sumd, State.setSumd_sumd, ← hpart]
    cases hu
    exact (sumdReceive_answers s.params s.ticks b s.sumd).abortedAfterByte (by simp) sumdProtocol

end Sys2Proof.Machine
end

section
/-! SUPPORT. What `RX.SBUS` does (R204), and a whole SBus frame from an idle state (R206, R210). -/

namespace Sys2Proof.Machine

/-! ### One byte, in each FSM state -/

/-- A received byte after `D.GAP ← 0`: Publish neither reads nor writes the gap (R76). -/
theorem publish_clearGap {σ : Type} {n cap : Nat} (now : Word) (vals : List Half)
    (cls : List ChanClass) (fl : BitVec 4) (D : Decoder σ n cap) :
    publish now vals cls fl D.clearGap = (publish now vals cls fl D).clearGap := by
  unfold publish Decoder.putBank Decoder.clearGap
  dsimp only
  split <;> rfl

/-- The idle states of R38, in which the decoder hunts for a start byte. -/
theorem SbusState.isIdle_iff {st : SbusState} :
    st.isIdle = true ↔ st = .undefined ∨ st = .gotEnd := by
  cases st <;> decide

theorem sbusReceive_of_hunting (p : Params) (now : Word) (b : Byte) {D : SbusDecoder}
    (h : D.st = .undefined ∨ D.st = .gotEnd) :
    sbusReceive p now b D = .quiet (sbusHunt p b D.clearGap) :=
  h.elim (sbusReceive_of_undefined p now b) (sbusReceive_of_gotEnd p now b)

/-- Settles O13: each FSM state by the equation of the receiver in it. -/
theorem rxSbusResult : Obligations.RxSbusResult := by
  intro b s
  refine ⟨_, _, exec_rxSbus b s, fun hst => ?_, fun hst => ?_, fun hst hb => ?_, fun hst hb => ?_⟩
  · rw [sbusReceive_of_hunting _ _ _ hst, Received.resp_quiet]
    exact ⟨rfl, fun hb => if_pos hb, fun hb => if_neg hb⟩
  · rw [sbusReceive_of_data _ _ _ hst, Received.resp_quiet]
    exact ⟨rfl, rfl⟩
  · rw [sbusReceive_of_waitEnd _ _ _ hst, if_pos hb, Received.resp_published,
      Received.published_decoder, sbusPublish, publish_clearGap]
    exact ⟨rfl, rfl⟩
  · rw [sbusReceive_of_waitEnd _ _ _ hst, if_neg hb, Received.resp_quiet]
    exact ⟨rfl, rfl⟩

/-! ### A frame from an idle state -/

theorem storeFrom_append {α : Type} {m : Nat} (xs ys : List α) (v : Vector α m) (k : Nat) :
    storeFrom v k (xs ++ ys) = storeFrom (storeFrom v k xs) (k + xs.length) ys := by
  induction xs generalizing v k with
  | nil => rfl
  | cons x xs ih =>
    rw [List.cons_append, storeFrom, storeFrom, ih, List.length_cons, Nat.add_comm xs.length,
      Nat.add_assoc]

/-- An idle decoder `D` after the start byte and the payload bytes `bs`. -/
def sbusCollected (bs : List Byte) (D : SbusDecoder) : SbusDecoder :=
  { D with
    gap := 0
    buf := storeFrom D.buf 0 bs
    idx := BitVec.ofNat 8 bs.length
    st := if bs.length = 23 then .waitEnd else .data }

theorem sbusCollected_byte {bs : List Byte} (D : SbusDecoder) {i : Nat} (hi : i < bs.length)
    (hlen : bs.length ≤ 23) : (sbusCollected bs D).byte i = bs[i] := by
  have hin : 0 ≤ i ∧ i < 0 + bs.length ∧ i < 23 := by omega
  rw [Decoder.byte, sbusCollected, storeFrom_getElem?, if_pos hin]
  simp [hi]

/-- The bytes of the buffer a whole payload was collected into. -/
theorem sbusCollected_bytes {bs : List Byte} (D : SbusDecoder) {len : Nat} (hle : len ≤ bs.length)
    (hlen : bs.length ≤ 23) : (sbusCollected bs D).bytes 0 len = bs.take len := by
  refine List.ext_getElem (by simp [hle]) fun i hi hi' => ?_
  have hlt : i < bs.length := by rw [List.length_take] at hi'; omega
  simp [Decoder.bytes, sbusCollected_byte D hlt hlen]

theorem sbusHunt_start (p : Params) (D : SbusDecoder) :
    sbusHunt p p.sbusStart D.clearGap = sbusCollected [] D := if_pos rfl

theorem toNat_ofNat_of_lt_256 {n : Nat} (h : n < 256) : (BitVec.ofNat 8 n).toNat = n := by
  rw [BitVec.toNat_ofNat]
  exact Nat.mod_eq_of_lt h

/-- One more payload byte (R204). -/
theorem sbusPayload_collected {bs : List Byte} (b : Byte) (D : SbusDecoder) (hlen : bs.length < 23) :
    sbusPayload b (sbusCollected bs D).clearGap = sbusCollected (bs ++ [b]) D := by
  have hidx := toNat_ofNat_of_lt_256 (n := bs.length) (by omega)
  have hsucc : BitVec.ofNat 8 bs.length + 1 = BitVec.ofNat 8 (bs ++ [b]).length := by
    rw [List.length_append, BitVec.ofNat_add]
    rfl
  have hlast : BitVec.ofNat 8 (bs ++ [b]).length = 23 ↔ (bs ++ [b]).length = 23 := by
    have hlt : (bs ++ [b]).length < 256 := by rw [List.length_append, List.length_singleton]; omega
    rw [← BitVec.toNat_inj, toNat_ofNat_of_lt_256 hlt]
    rfl
  simp only [sbusPayload, sbusCollected, Decoder.clearGap, Decoder.putByte, hidx, hsucc, hlast,
    storeFrom_append, Nat.zero_add]
  rfl

theorem rxsSbus_append (bs cs : List Byte) : rxsSbus (bs ++ cs) = rxsSbus bs ++ rxsSbus cs :=
  List.map_append

theorem rxsSbus_singleton (b : Byte) : rxsSbus [b] = [.rxSbus b] := rfl

/-- The start byte and up to 23 payload bytes, whatever they are. -/
theorem execAll_sbus_payload (s : State) (bs : List Byte) (hidle : s.sbus.st.isIdle = true)
    (hlen : bs.length ≤ 23) : execAll (rxsSbus (s.params.sbusStart :: bs)) s =
      .next ((s.setSbus (sbusCollected bs s.sbus)).setResp (respOk 0)) := by
  induction bs using List.reverseRecOn with
  | nil =>
    rw [rxsSbus_singleton, execAll_singleton, exec_rxSbus,
      sbusReceive_of_hunting _ _ _ (SbusState.isIdle_iff.1 hidle), Received.resp_quiet,
      Received.quiet_decoder, sbusHunt_start]
  | append_singleton bs b ih =>
    rw [List.length_append, List.length_singleton] at hlen
    have hst : (sbusCollected bs s.sbus).st = .data := if_neg (by omega)
    rw [← List.cons_append, rxsSbus_append, execAll_append, ih (by omega), andThen_next,
      rxsSbus_singleton, execAll_singleton, exec_rxSbus]
    simp only [State.setResp_sbus, State.setSbus_sbus, sbusReceive_of_data _ _ _ hst,
      Received.resp_quiet, Received.quiet_decoder, sbusPayload_collected b s.sbus hlen]
    rfl

/-- Start byte, 23 payload bytes, end byte: the frame is published (R204). -/
theorem execAll_sbus_frame (s : State) (bs : List Byte) (hidle : s.sbus.st.isIdle = true)
    (hlen : bs.length = 23) : execAll (rxsSbus (s.params.sbusStart :: bs ++ [s.params.sbusEnd])) s =
      .next ((s.setSbus (sbusPublish s.params s.ticks (sbusCollected bs s.sbus))).setResp
        (respOk 3)) := by
  have hst : (sbusCollected bs s.sbus).st = .waitEnd := if_pos hlen
  rw [rxsSbus_append, execAll_append, execAll_sbus_payload s bs hidle (by omega), andThen_next,
    rxsSbus_singleton, execAll_singleton, exec_rxSbus]
  simp only [State.setResp_sbus, State.setSbus_sbus, sbusReceive_of_waitEnd _ _ _ hst,
    State.setResp_params, State.setSbus_params, if_true, Received.resp_published,
    Received.published_decoder]
  rfl

/-- A frame collected from the wire decodes to the channels and flags it was built from (R210). -/
theorem sbusCollected_decode {ch : List Half} (fl : Byte) (D : SbusDecoder) (hlen : ch.length = 16)
    (hch : ∀ c ∈ ch, c.toNat < 2048) :
    sbusDecode (sbusCollected (pack11 ch ++ [fl]) D) = ch ∧
    sbusFlags (sbusCollected (pack11 ch ++ [fl]) D) = fl.extractLsb' 0 4 := by
  have hbytes : (sbusCollected (pack11 ch ++ [fl]) D).bytes 0 22 = pack11 ch := by
    rw [sbusCollected_bytes D (by simp) (by simp)]
    exact List.take_left' (pack11_length ch)
  have hflags : (sbusCollected (pack11 ch ++ [fl]) D).byte 22 = fl := by
    rw [sbusCollected_byte D (by simp) (by simp)]
    exact List.getElem_concat_length (pack11_length ch).symm _
  rw [sbusDecode, hbytes, unpack11_pack11 hlen hch, sbusFlags, hflags]
  exact ⟨rfl, rfl⟩

/-- The frame of `sbusFrame`, its payload and flags byte taken together. -/
theorem sbusFrame_eq (p : Params) (ch : List Half) (fl : Byte) :
    sbusFrame p ch fl = p.sbusStart :: (pack11 ch ++ [fl]) ++ [p.sbusEnd] := by
  simp [sbusFrame]

theorem execAll_sbusFrame (s : State) (ch : List Half) (fl : Byte)
    (hidle : s.sbus.st.isIdle = true) : execAll (rxsSbus (sbusFrame s.params ch fl)) s =
      .next ((s.setSbus (sbusPublish s.params s.ticks
        (sbusCollected (pack11 ch ++ [fl]) s.sbus))).setResp (respOk 3)) := by
  rw [sbusFrame_eq]
  exact execAll_sbus_frame s _ hidle (by simp)

/-- Settles O44: the buffer holds the payload, which unpacks to the channels it was packed from, and
Publish loads them into the bank it shows. -/
theorem sbusFrameRoundTrip : Obligations.SbusFrameRoundTrip := by
  intro s ch fl hidle hlen hch
  obtain ⟨hdecode, hflags⟩ := sbusCollected_decode fl s.sbus hlen hch
  refine ⟨_, execAll_sbusFrame s ch fl hidle, ?_⟩
  have hactive : (sbusPublish s.params s.ticks (sbusCollected (pack11 ch ++ [fl]) s.sbus)).active =
      (s.sbus.bank (!s.sbus.act)).load ch (ch.map (sbusClass s.params)) (fl.extractLsb' 0 4) := by
    rw [sbusPublish, hdecode, hflags]
    exact publish_active s.ticks _ _ _ (sbusCollected _ s.sbus)
  rw [State.setSbus_sbus, hactive]
  refine ⟨fun k hk => Bank.load_at _ _ _ (by omega) hk, ?_, rfl, rfl, rfl, rfl, rfl, rfl, rfl⟩
  rw [Bank.load_cnt, hlen]
  rfl

/-- Settles O45: the first frame leaves the decoder in `GotEnd`, which is idle. -/
theorem sbusBackToBackFrames : Obligations.SbusBackToBackFrames := by
  intro s ch ch' fl fl' hidle _ _
  refine ⟨_, _, execAll_sbusFrame s ch fl hidle, rfl, execAll_sbusFrame _ ch' fl' rfl, rfl, rfl, ?_⟩
  exact BitVec.add_assoc s.sbus.frames 1 1

end Sys2Proof.Machine
end

section
/-! SUPPORT. Sequences of commands that leave a decoder to its timers (R207, R208, R402, R403): the
decoder's view of each command, and what the timers have done after the last one. -/

namespace Sys2Proof.Machine

/-! ### What a TICK leaves, field by field -/

section
variable {σ : Type} {n cap : Nat}

theorem not_gapFires_of_idle {P : Protocol σ} {p : Params} {D : Decoder σ n cap}
    (h : P.isIdle D.st = true) : ¬ GapFires P p D :=
  fun hf => Bool.false_ne_true (hf.1.symm.trans h)

theorem not_staleFires_of_invalid {P : Protocol σ} {p : Params} {D : Decoder σ n cap}
    (h : D.valid = false) : ¬ StaleFires P p D :=
  fun hf => Bool.false_ne_true (h.symm.trans hf.1)

/-- GapStep fires, or writes `GAP` alone (R402, R454). -/
theorem gapStep_eq (P : Protocol σ) (p : Params) (D : Decoder σ n cap) :
    gapStep P p D = if GapFires P p D then byteTimeout P D else
      { D with gap := if P.isIdle D.st = true then 0
                      else if P.tByte p = 0 then D.gap else D.gap + 1 } := by
  rcases gapStep_cases P p D with ⟨hi, e⟩ | ⟨hi, ht, e⟩ | ⟨hi, ht, hg, e⟩ | ⟨hi, ht, hg, e⟩ <;> rw [e]
  · rw [if_neg (not_gapFires_of_idle hi), if_pos hi]
    rfl
  · have hquiet : ¬ GapFires P p D := fun hf => hf.2.1 ht
    rw [if_neg hquiet, if_neg (Bool.not_eq_true _ ▸ hi), if_pos ht]
  · rw [if_pos (⟨hi, ht, hg⟩ : GapFires P p D)]
  · have hquiet : ¬ GapFires P p D := fun hf => hg hf.2.2
    rw [if_neg hquiet, if_neg (Bool.not_eq_true _ ▸ hi), if_neg ht]

/-- StaleStep writes `VALID`, `AGE` and `LAST_ERR` (R403, R455). -/
theorem staleStep_eq (P : Protocol σ) (p : Params) (D : Decoder σ n cap) :
    staleStep P p D = { D with
      valid := if StaleFires P p D then false else D.valid
      age := if D.valid = true ∧ P.tStale p ≠ 0 then D.age + 1 else D.age
      lastErr := if StaleFires P p D then .stale else D.lastErr } := by
  rcases staleStep_cases P p D with ⟨hoff, e⟩ | ⟨hv, ht, ha, e⟩ | ⟨hv, ht, ha, e⟩ <;> rw [e]
  · have hstopped : ¬ (D.valid = true ∧ P.tStale p ≠ 0) := by
      rintro ⟨hv, ht⟩
      exact hoff.elim (by simp [hv]) ht
    have hquiet : ¬ StaleFires P p D := fun hf => hstopped ⟨hf.1, hf.2.1⟩
    simp only [if_neg hquiet, if_neg hstopped]
  · have hfires : StaleFires P p D := ⟨hv, ht, ha⟩
    simp only [if_pos hfires, if_pos (And.intro hv ht)]
    rfl
  · have hquiet : ¬ StaleFires P p D := fun hf => ha hf.2.2
    simp only [if_neg hquiet, if_pos (And.intro hv ht)]

/-- A TICK does what R402 and R403 say, field by field: GapStep keeps the store, so StaleStep
finds the `VALID` and `AGE` of before (R459). -/
theorem tickDecoder_rule (P : Protocol σ) (p : Params) (D : Decoder σ n cap) :
    TickRule P p D (tickDecoder P p D) := by
  rw [tickDecoder, staleStep_eq, gapStep_eq]
  unfold TickRule
  by_cases hf : GapFires P p D
  · simp only [if_pos hf, if_pos (Or.inr hf : P.isIdle D.st = true ∨ GapFires P p D)]
    exact ⟨rfl, rfl, rfl, rfl, rfl, rfl, rfl, rfl, rfl, rfl, rfl, rfl, rfl, rfl, rfl, rfl, rfl⟩
  · simp only [if_neg hf, or_iff_left hf, and_self]

/-- The same banks and selector show the same frame. -/
theorem Decoder.active_congr {D E : Decoder σ n cap} (hbank0 : E.bank0 = D.bank0)
    (hbank1 : E.bank1 = D.bank1) (hact : E.act = D.act) : E.active = D.active := by
  unfold Decoder.active Decoder.bank
  rw [hbank0, hbank1, hact]

end

/-! ### One more command -/

theorem count_tick_snoc (is : List Instr) :
    (is ++ [Instr.tick]).count .tick = is.count .tick + 1 := by
  rw [List.count_append, List.count_singleton_self]

theorem count_tick_snoc_of_ne (is : List Instr) {i : Instr} (hi : i ≠ .tick) :
    (is ++ [i]).count .tick = is.count .tick := by
  rw [List.count_append, List.count_singleton, beq_false_of_ne hi]
  rfl

section
variable {σ : Type} {n cap : Nat} {P : Protocol σ} {p : Params} {is : List Instr}
  {D E F : Decoder σ n cap}

theorem AbortedBySilence.nil (hgap : D.gap = 0) (ht : P.tByte p ≠ 0) :
    AbortedBySilence P p [] D D := by
  refine ⟨fun _ => ⟨rfl, rfl, rfl, by rw [hgap]; rfl, rfl⟩, fun hle => ?_, nofun⟩
  exact absurd (BitVec.eq_of_toNat_eq (Nat.le_zero.mp hle)) ht

/-- Commands that are no TICK and leave the decoder alone do not matter. -/
theorem AbortedBySilence.other (h : AbortedBySilence P p is D E) {i : Instr} (hi : i ≠ .tick) :
    AbortedBySilence P p (is ++ [i]) D E := by
  obtain ⟨hbefore, hafter, -⟩ := h
  unfold AbortedBySilence
  rw [count_tick_snoc_of_ne is hi, List.getLast?_concat]
  exact ⟨hbefore, hafter, fun _ hlast => absurd (Option.some.inj hlast) hi⟩

/-- A TICK counts, fires the timer, or finds the decoder aborted already. -/
theorem AbortedBySilence.tick (h : AbortedBySilence P p is D E) (hpartial : P.isIdle D.st = false)
    (hinitial : P.isIdle P.initial = true) (ht : P.tByte p ≠ 0) :
    AbortedBySilence P p (is ++ [.tick]) D (tickDecoder P p E) := by
  obtain ⟨hbefore, hafter, -⟩ := h
  obtain ⟨hst, hidx, hexp, hgap, hfrm, -, -, hlast, -⟩ := tickDecoder_rule P p E
  unfold AbortedBySilence
  rw [count_tick_snoc, hst, hidx, hexp, hgap, hfrm, hlast]
  rcases Nat.lt_or_ge (is.count .tick) (P.tByte p).toNat with hlt | hge
  · obtain ⟨est, eidx, eexp, egap, efrm⟩ := hbefore hlt
    have hidle : P.isIdle E.st = false := est ▸ hpartial
    by_cases hfire : E.gap + 1 = P.tByte p
    · have hcount : is.count .tick + 1 = (P.tByte p).toNat := by
        rw [← hfire]; bv_omega
      have hfires : GapFires P p E := ⟨hidle, ht, hfire⟩
      simp only [if_pos hfires, if_pos (Or.inr hfires : P.isIdle E.st = true ∨ GapFires P p E), efrm,
        and_self]
      refine ⟨fun hlt' => absurd hcount (Nat.ne_of_lt hlt'), fun _ => trivial,
        fun _ _ => ?_⟩
      split
      · exact .inr rfl
      · exact .inl rfl
    · have hcount : is.count .tick + 1 < (P.tByte p).toNat ∧
          (E.gap + 1).toNat = is.count .tick + 1 := by bv_omega
      have hquiet : ¬ GapFires P p E := fun hf => hfire hf.2.2
      have hcounts : ¬ (P.isIdle E.st = true ∨ GapFires P p E) := by simp [hidle, hquiet]
      simp only [if_neg hquiet, if_neg hcounts, if_neg ht]
      exact ⟨fun _ => ⟨est, eidx, eexp, hcount.2, efrm⟩,
        fun hle => absurd hle (Nat.not_le.mpr hcount.1),
        fun heq => absurd heq (Nat.ne_of_lt hcount.1)⟩
  · obtain ⟨est, eidx, eexp, -, efrm⟩ := hafter hge
    have hidle : P.isIdle E.st = true := est ▸ hinitial
    have hquiet : ¬ GapFires P p E := not_gapFires_of_idle hidle
    simp only [if_neg hquiet, if_pos (Or.inl hidle : P.isIdle E.st = true ∨ GapFires P p E)]
    exact ⟨fun hlt => by omega, fun _ => ⟨est, eidx, eexp, trivial, efrm⟩, fun heq => by omega⟩

theorem StaleBySilence.nil (hvalid : D.valid = true) (hage : D.age = 0) (ht : P.tStale p ≠ 0) :
    StaleBySilence P p [] D D := by
  refine ⟨fun _ => ⟨hvalid, by rw [hage]; rfl⟩, fun hle => ?_, nofun, rfl, rfl⟩
  exact absurd (BitVec.eq_of_toNat_eq (Nat.le_zero.mp hle)) ht

/-- Commands that are no TICK and publish nothing do not matter. -/
theorem StaleBySilence.other (h : StaleBySilence P p is D E) {i : Instr} (hi : i ≠ .tick)
    (hvalid : F.valid = E.valid) (hage : F.age = E.age) (hactive : F.active = E.active)
    (hhas : F.has = E.has) : StaleBySilence P p (is ++ [i]) D F := by
  obtain ⟨hbefore, hafter, -, hframe⟩ := h
  unfold StaleBySilence
  rw [count_tick_snoc_of_ne is hi, List.getLast?_concat, hvalid, hage, hactive, hhas]
  exact ⟨hbefore, hafter, fun _ hlast => absurd (Option.some.inj hlast) hi, hframe⟩

/-- A TICK ages the frame, turns it stale, or finds it stale already. -/
theorem StaleBySilence.tick (h : StaleBySilence P p is D E) (ht : P.tStale p ≠ 0) :
    StaleBySilence P p (is ++ [.tick]) D (tickDecoder P p E) := by
  obtain ⟨hbefore, hafter, -, hactive, hhas⟩ := h
  obtain ⟨-, -, -, -, -, evalid, eage, elast, -, -, ebank0, ebank1, eact, ehas, -⟩ :=
    tickDecoder_rule P p E
  unfold StaleBySilence
  rw [count_tick_snoc, evalid, eage, elast, Decoder.active_congr ebank0 ebank1 eact, ehas]
  rcases Nat.lt_or_ge (is.count .tick) (P.tStale p).toNat with hlt | hge
  · obtain ⟨hvalid, hage⟩ := hbefore hlt
    simp only [if_pos (And.intro hvalid ht)]
    by_cases hfire : E.age + 1 = P.tStale p
    · have hcount : is.count .tick + 1 = (P.tStale p).toNat := by
        rw [← hfire]; bv_omega
      have hfires : StaleFires P p E := ⟨hvalid, ht, hfire⟩
      simp only [if_pos hfires]
      exact ⟨fun hlt' => absurd hcount (Nat.ne_of_lt hlt'), fun _ => ⟨trivial, hfire⟩,
        fun _ _ => trivial, hactive, hhas⟩
    · have hcount : is.count .tick + 1 < (P.tStale p).toNat ∧
          (E.age + 1).toNat = is.count .tick + 1 := by bv_omega
      have hquiet : ¬ StaleFires P p E := fun hf => hfire hf.2.2
      simp only [if_neg hquiet]
      exact ⟨fun _ => ⟨hvalid, hcount.2⟩, fun hle => absurd hle (Nat.not_le.mpr hcount.1),
        fun heq => absurd heq (Nat.ne_of_lt hcount.1), hactive, hhas⟩
  · obtain ⟨hvalid, hage⟩ := hafter hge
    have hquiet : ¬ StaleFires P p E := not_staleFires_of_invalid hvalid
    have hstopped : ¬ (E.valid = true ∧ P.tStale p ≠ 0) :=
      fun hf => Bool.false_ne_true (hvalid.symm.trans hf.1)
    simp only [if_neg hquiet, if_neg hstopped]
    exact ⟨fun hlt => by omega, fun _ => ⟨hvalid, hage⟩, fun heq => by omega, hactive, hhas⟩

end

/-! ### The decoders as views of the block -/

/-- A command that is not of part `a`, no TICK and no RESET keeps part `a`. -/
theorem exec_keeps_part {i : Instr} {a : Nat} {s t : State} (h : exec i s = .next t)
    (htick : i ≠ .tick) (hreset : i ≠ .reset) (hpart : partOf i ≠ some a) : s.PartEq a t := by
  cases hi : partOf i with
  | some b =>
    obtain ⟨-, hkeep⟩ := exec_keeps_otherParts hi h
    exact hkeep a fun hab => hpart (hab ▸ hi)
  | none =>
    have hframe : ∃ r, t = s.setResp r := by
      cases i <;> cases hi
      case tick => exact absurd rfl htick
      case reset => exact absurd rfl hreset
      all_goals
        simp at h
        exact ⟨_, h.symm⟩
    obtain ⟨r, rfl⟩ := hframe
    unfold State.PartEq
    split <;> trivial

/-- `view` shows decoder `a` of the block, of protocol `P`: what a TICK does to it, which commands
leave it alone, and which may publish into its store. -/
structure DecoderView {σ : Type} {n cap : Nat} (a : Nat) (P : Protocol σ)
    (view : State → Decoder σ n cap) : Prop where
  initial_idle : P.isIdle P.initial = true
  tick : ∀ {s t : State}, exec .tick s = .next t → view t = tickDecoder P s.params (view s)
  other : ∀ {i : Instr} {s t : State}, exec i s = .next t → i ≠ .tick → i ≠ .reset →
    partOf i ≠ some a → view t = view s
  store : ∀ {i : Instr} {s t : State}, exec i s = .next t → i ≠ .reset →
    StoreKept (i = .tick) (partOf i = some a) t.resp s.ticks (view s) (view t)

theorem StoreKept.mono_mine {σ : Type} {n cap : Nat} {timed mine mine' : Prop} {resp : Response}
    {now : Word} {D E : Decoder σ n cap} (h : StoreKept timed mine resp now D E)
    (hmine : mine → mine') : StoreKept timed mine' resp now D E :=
  h.imp_right fun ⟨hm, hrest⟩ => ⟨hmine hm, hrest⟩

theorem sbus_view : DecoderView 0 sbusProtocol State.sbus where
  initial_idle := rfl
  tick h := by cases h; rfl
  other h htick hreset hpart := (exec_keeps_part h htick hreset hpart).symm
  store h hreset := by
    obtain ⟨hstore, -⟩ := onlyPublishWritesTheStore _ _ _ h hreset
    exact hstore.mono_mine fun ⟨_, hi⟩ => hi ▸ rfl

theorem ibus_view : DecoderView 1 ibusProtocol State.ibus where
  initial_idle := rfl
  tick h := by cases h; rfl
  other h htick hreset hpart := (exec_keeps_part h htick hreset hpart).symm
  store h hreset := by
    obtain ⟨-, hstore, -⟩ := onlyPublishWritesTheStore _ _ _ h hreset
    exact hstore.mono_mine fun ⟨_, hi⟩ => hi ▸ rfl

theorem crsf_view : DecoderView 2 crsfProtocol State.crsf where
  initial_idle := rfl
  tick h := by cases h; rfl
  other h htick hreset hpart := by
    obtain ⟨hcrsf, -⟩ := exec_keeps_part h htick hreset hpart
    exact hcrsf.symm
  store h hreset := by
    obtain ⟨-, -, hstore, -⟩ := onlyPublishWritesTheStore _ _ _ h hreset
    exact hstore.mono_mine fun ⟨_, hi⟩ => hi ▸ rfl

theorem sumd_view : DecoderView 3 sumdProtocol State.sumd where
  initial_idle := rfl
  tick h := by cases h; rfl
  other h htick hreset hpart := (exec_keeps_part h htick hreset hpart).symm
  store h hreset := by
    obtain ⟨-, -, -, hstore⟩ := onlyPublishWritesTheStore _ _ _ h hreset
    exact hstore.mono_mine fun ⟨_, hi⟩ => hi ▸ rfl

/-! ### Whole sequences -/

/-- A sequence runs as all but its last command, and then that one. -/
theorem execAll_snoc_eq_next {is : List Instr} {i : Instr} {s t : State}
    (h : execAll (is ++ [i]) s = .next t) :
    ∃ u, execAll is s = .next u ∧ exec i u = .next t := by
  rw [execAll_append] at h
  obtain ⟨u, hu, ht⟩ := andThen_eq_next h
  exact ⟨u, hu, (execAll_singleton i u).symm.trans ht⟩

theorem execAll_keeps_params {is : List Instr} {s t : State} (h : execAll is s = .next t) :
    t.params = s.params := by
  induction is generalizing s with
  | nil => cases h; rfl
  | cons i is ih =>
    obtain ⟨u, hu, ht⟩ := andThen_eq_next h
    exact (ih ht).trans (parametersNeverChange i s u hu).1

theorem QuietFor.of_snoc {a : Nat} {is : List Instr} {i : Instr} (h : QuietFor a (is ++ [i])) :
    QuietFor a is ∧ partOf i ≠ some a ∧ i ≠ .reset :=
  ⟨fun j hj => h j (List.mem_append_left _ hj),
    h i (List.mem_append_right _ (List.mem_singleton_self i))⟩

/-- Without a publish in a sequence there is none in its first part, nor by its last command. -/
theorem Unpublished.of_snoc {a : Nat} {is : List Instr} {i : Instr} {s u t : State}
    (h : Unpublished a (is ++ [i]) s) (hu : execAll is s = .next u) (ht : exec i u = .next t) :
    Unpublished a is s ∧ ¬ (partOf i = some a ∧ t.resp = ⟨.ok, 3⟩) := by
  induction is generalizing s with
  | nil =>
    cases hu
    exact ⟨trivial, (h t ht).1⟩
  | cons j is ih =>
    obtain ⟨v, hv, hu⟩ := andThen_eq_next hu
    obtain ⟨hfirst, hrest⟩ := h v hv
    obtain ⟨hrest, hlast⟩ := ih hrest hu
    refine ⟨fun v' hv' => ?_, hlast⟩
    cases hv.symm.trans hv'
    exact ⟨hfirst, hrest⟩

section
variable {σ : Type} {n cap a : Nat} {P : Protocol σ} {view : State → Decoder σ n cap}
  {is : List Instr} {s t : State}

theorem DecoderView.abortedBySilence (hview : DecoderView a P view) (hrun : execAll is s = .next t)
    (hq : QuietFor a is) (hpartial : P.isIdle (view s).st = false) (hgap : (view s).gap = 0)
    (ht : P.tByte s.params ≠ 0) : AbortedBySilence P s.params is (view s) (view t) := by
  induction is using List.reverseRecOn generalizing t with
  | nil =>
    cases hrun
    exact .nil hgap ht
  | append_singleton is i ih =>
    obtain ⟨hquiet, hpart, hreset⟩ := hq.of_snoc
    obtain ⟨u, hu, hi⟩ := execAll_snoc_eq_next hrun
    by_cases htick : i = .tick
    · subst htick
      rw [hview.tick hi, execAll_keeps_params hu]
      exact (ih hu hquiet).tick hpartial hview.initial_idle ht
    · rw [hview.other hi htick hreset hpart]
      exact (ih hu hquiet).other htick

/-- The byte timer does nothing to an idle decoder (R402). -/
theorem DecoderView.idle_unaffected (hview : DecoderView a P view) (hrun : execAll is s = .next t)
    (hq : QuietFor a is) (hidle : P.isIdle (view s).st = true) :
    (view t).st = (view s).st ∧ (view t).frmErr = (view s).frmErr := by
  induction is using List.reverseRecOn generalizing t with
  | nil =>
    cases hrun
    exact ⟨rfl, rfl⟩
  | append_singleton is i ih =>
    obtain ⟨hquiet, hpart, hreset⟩ := hq.of_snoc
    obtain ⟨u, hu, hi⟩ := execAll_snoc_eq_next hrun
    obtain ⟨ust, ufrm⟩ := ih hu hquiet
    by_cases htick : i = .tick
    · subst htick
      obtain ⟨hst, -, -, -, hfrm, -⟩ := tickDecoder_rule P u.params (view u)
      have hsilent : ¬ GapFires P u.params (view u) := not_gapFires_of_idle (ust ▸ hidle)
      rw [hview.tick hi, hst, hfrm, if_neg hsilent, if_neg hsilent]
      exact ⟨ust, ufrm⟩
    · rw [hview.other hi htick hreset hpart]
      exact ⟨ust, ufrm⟩

theorem DecoderView.staleBySilence (hview : DecoderView a P view) (hrun : execAll is s = .next t)
    (hreset : .reset ∉ is) (hunpub : Unpublished a is s) (hvalid : (view s).valid = true)
    (hage : (view s).age = 0) (ht : P.tStale s.params ≠ 0) :
    StaleBySilence P s.params is (view s) (view t) := by
  induction is using List.reverseRecOn generalizing t with
  | nil =>
    cases hrun
    exact .nil hvalid hage ht
  | append_singleton is i ih =>
    obtain ⟨u, hu, hi⟩ := execAll_snoc_eq_next hrun
    obtain ⟨hunpub, hlast⟩ := hunpub.of_snoc hu hi
    rw [List.mem_append, not_or, List.mem_singleton] at hreset
    have hbefore := ih hu hreset.1 hunpub
    by_cases htick : i = .tick
    · subst htick
      rw [hview.tick hi, execAll_keeps_params hu]
      exact hbefore.tick ht
    · rcases hview.store hi (Ne.symm hreset.2) with
        ⟨hbank0, hbank1, hact, hhas, -, -, htimer⟩ | ⟨hmine, hresp, -⟩
      · obtain ⟨hvalid', hage'⟩ := htimer htick
        exact hbefore.other htick hvalid' hage' (Decoder.active_congr hbank0 hbank1 hact) hhas
      · exact absurd ⟨hmine, hresp⟩ hlast

end

/-- Settles O41: each decoder as a view of the block. -/
theorem silenceAbortsAPartialFrame : Obligations.SilenceAbortsAPartialFrame :=
  fun _ _ _ hrun =>
    ⟨fun hq => ⟨sbus_view.abortedBySilence hrun hq, sbus_view.idle_unaffected hrun hq⟩,
     fun hq => ⟨ibus_view.abortedBySilence hrun hq, ibus_view.idle_unaffected hrun hq⟩,
     fun hq => ⟨crsf_view.abortedBySilence hrun hq, crsf_view.idle_unaffected hrun hq⟩,
     fun hq => ⟨sumd_view.abortedBySilence hrun hq, sumd_view.idle_unaffected hrun hq⟩⟩

/-- Settles O42: each decoder as a view of the block. -/
theorem silenceMakesTheFrameStale : Obligations.SilenceMakesTheFrameStale :=
  fun _ _ _ hrun hreset =>
    ⟨sbus_view.staleBySilence hrun hreset, ibus_view.staleBySilence hrun hreset,
     crsf_view.staleBySilence hrun hreset, sumd_view.staleBySilence hrun hreset⟩

end Sys2Proof.Machine
end

section
/-! SUPPORT. How many further bytes a decoder can take before it is idle again (R209, R249, R290,
R337): every byte to a decoder that is not idle makes that number smaller. -/

namespace Sys2Proof.Machine

/-! ### SBus -/

/-- The bytes the current SBus frame still needs at most: the rest of the payload and the end byte. -/
def sbusTodo (D : SbusDecoder) : Nat :=
  match D.st with
  | .undefined | .gotEnd => 0
  | .data => 24 - D.idx.toNat
  | .waitEnd => 1

theorem sbusTodo_of_idle {D : SbusDecoder} (h : D.st.isIdle = true) : sbusTodo D = 0 := by
  unfold sbusTodo
  rcases SbusState.isIdle_iff.1 h with hst | hst <;> rw [hst]

theorem sbusTodo_of_data {D : SbusDecoder} (h : D.st = .data) : sbusTodo D = 24 - D.idx.toNat := by
  unfold sbusTodo
  rw [h]

theorem sbusTodo_of_waitEnd {D : SbusDecoder} (h : D.st = .waitEnd) : sbusTodo D = 1 := by
  unfold sbusTodo
  rw [h]

theorem sbusTodo_le (D : SbusDecoder) : sbusTodo D ≤ 24 := by
  unfold sbusTodo
  split <;> omega

theorem sbusReceive_todo_lt (p : Params) (now : Word) (b : Byte) {D : SbusDecoder}
    (h : SbusPhase D) (hidle : D.st.isIdle = false) :
    sbusTodo (sbusReceive p now b D).decoder < sbusTodo D := by
  rcases sbusReceive_cases p now b D with ⟨hst, -⟩ | ⟨hst, e⟩ | ⟨hst, -, e⟩ | ⟨hst, -, e⟩
  · rcases hst with hst | hst <;> rw [hst] at hidle <;> cases hidle
  · have hlt := (sbusPhase_of_data hst).1 h
    rw [e, sbusTodo_of_data hst, Received.quiet_decoder]
    by_cases hlast : D.idx + 1 = 23
    · rw [sbusTodo_of_waitEnd (D := sbusPayload b D.clearGap) (if_pos hlast)]
      omega
    · rw [sbusTodo_of_data (D := sbusPayload b D.clearGap) (if_neg hlast)]
      have hidx : (sbusPayload b D.clearGap).idx = D.idx + 1 := rfl
      rw [hidx]
      bv_omega
  · rw [e, sbusTodo_of_waitEnd hst, Received.published_decoder, sbusTodo_of_idle rfl]
    decide
  · rw [e, sbusTodo_of_waitEnd hst, Received.quiet_decoder, sbusTodo_of_idle rfl]
    decide

/-! ### IBus -/

/-- The bytes the current IBus frame still needs. -/
def ibusTodo (D : IbusDecoder) : Nat :=
  match D.st with
  | .idle => 0
  | .hdr => 31
  | .data => 32 - D.idx.toNat

theorem ibusTodo_of_idle {D : IbusDecoder} (h : D.st = .idle) : ibusTodo D = 0 := by
  unfold ibusTodo
  rw [h]

theorem ibusTodo_of_hdr {D : IbusDecoder} (h : D.st = .hdr) : ibusTodo D = 31 := by
  unfold ibusTodo
  rw [h]

theorem ibusTodo_of_data {D : IbusDecoder} (h : D.st = .data) : ibusTodo D = 32 - D.idx.toNat := by
  unfold ibusTodo
  rw [h]

theorem ibusTodo_le (D : IbusDecoder) : ibusTodo D ≤ 32 := by
  unfold ibusTodo
  split <;> omega

theorem ibusHeader_todo_lt (p : Params) (b : Byte) (D : IbusDecoder) :
    ibusTodo (ibusHeader p b D) < 31 := by
  unfold ibusHeader
  split
  · rw [ibusTodo_of_data rfl]
    change 32 - 2 < 31
    decide
  · rw [ibusTodo_of_idle rfl]
    decide

theorem ibusReceive_todo_lt (p : Params) (now : Word) (b : Byte) {D : IbusDecoder}
    (h : IbusPhase p D) (hidle : D.st.isIdle = false) :
    ibusTodo (ibusReceive p now b D).decoder < ibusTodo D := by
  have hroom : D.st = .data → D.idx.toNat < 32 := fun hst => by
    obtain ⟨-, hlt, -⟩ := (ibusPhase_of_data hst).1 h
    exact hlt
  rcases ibusReceive_cases p now b D with
    ⟨hst, -⟩ | ⟨hst, e⟩ | ⟨hst, hne, e⟩ | ⟨hst, -, -, e⟩ | ⟨hst, -, -, e⟩
  · rw [hst] at hidle
    cases hidle
  · rw [e, ibusTodo_of_hdr hst]
    exact ibusHeader_todo_lt p b D.clearGap
  · have hlt := hroom hst
    have hidx : (ibusStore b D.clearGap).idx = D.idx + 1 := rfl
    rw [e, ibusTodo_of_data hst, Received.quiet_decoder,
      ibusTodo_of_data (D := ibusStore b D.clearGap) hst, hidx]
    bv_omega
  · rw [e, ibusTodo_of_data hst, Received.published_decoder, ibusTodo_of_idle rfl]
    exact Nat.sub_pos_of_lt (hroom hst)
  · rw [e, ibusTodo_of_data hst, Received.quiet_decoder, ibusTodo_of_idle rfl]
    exact Nat.sub_pos_of_lt (hroom hst)

/-! ### CRSF -/

/-- The bytes the current CRSF frame still needs at most: the length byte and the longest legal rest,
or the rest that was announced. -/
def crsfTodo (D : CrsfDecoder) : Nat :=
  match D.st with
  | .sync => 0
  | .len => 63
  | .data => D.exp.toNat - D.idx.toNat

theorem crsfTodo_of_sync {D : CrsfDecoder} (h : D.st = .sync) : crsfTodo D = 0 := by
  unfold crsfTodo
  rw [h]

theorem crsfTodo_of_len {D : CrsfDecoder} (h : D.st = .len) : crsfTodo D = 63 := by
  unfold crsfTodo
  rw [h]

theorem crsfTodo_of_data {D : CrsfDecoder} (h : D.st = .data) :
    crsfTodo D = D.exp.toNat - D.idx.toNat := by
  unfold crsfTodo
  rw [h]

theorem crsfTodo_le {p : Params} (hp : p.wellFormed = true) {D : CrsfDecoder} (h : CrsfPhase p D) :
    crsfTodo D ≤ 63 := by
  obtain ⟨-, hlenMax, -, -⟩ := wellFormed_bounds hp
  cases hst : D.st with
  | sync => rw [crsfTodo_of_sync hst]; decide
  | len => rw [crsfTodo_of_len hst]
  | data =>
    obtain ⟨-, hmax, -⟩ := (crsfPhase_of_data hst).1 h
    rw [BitVec.le_def] at hmax
    rw [crsfTodo_of_data hst]
    omega

theorem crsfLength_todo_lt {p : Params} (hp : p.wellFormed = true) (b : Byte) (D : CrsfDecoder) :
    crsfTodo (crsfLength p b D) < 63 := by
  obtain ⟨-, hlenMax, -, -⟩ := wellFormed_bounds hp
  unfold crsfLength
  split
  · next hb =>
    obtain ⟨-, hmax⟩ := hb
    rw [BitVec.le_def] at hmax
    rw [crsfTodo_of_data rfl]
    change b.toNat - 0 < 63
    omega
  · rw [crsfTodo_of_sync rfl]
    decide

theorem crsfReceive_todo_lt {p : Params} (hp : p.wellFormed = true) (now : Word) (b : Byte)
    {D : CrsfDecoder} (m : Mirror) (h : CrsfPhase p D) (hidle : D.st.isIdle = false) :
    crsfTodo (crsfReceive p now b D m).decoder.decoder < crsfTodo D := by
  have hroom : D.st = .data → D.idx < D.exp := fun hst => by
    obtain ⟨-, -, hlt, -⟩ := (crsfPhase_of_data hst).1 h
    exact hlt
  rcases crsfReceive_cases p now b D m with
    ⟨hst, -⟩ | ⟨hst, e⟩ | ⟨hst, -, e⟩ | ⟨hst, -, E, F, -, rfl, hlast⟩
  · rw [hst] at hidle
    cases hidle
  · rw [e, crsfTodo_of_len hst]
    exact crsfLength_todo_lt hp b D.clearGap
  · have hlt := hroom hst
    have hidx : (crsfStore p b D.clearGap).idx = D.idx + 1 := rfl
    have hexp : (crsfStore p b D.clearGap).exp = D.exp := rfl
    rw [e, crsfTodo_of_data hst, Received.quiet_decoder,
      crsfTodo_of_data (D := crsfStore p b D.clearGap) hst, hidx, hexp]
    bv_omega
  · have hsync : (crsfReceive p now b D m).decoder.decoder.st = .sync := by
      rcases hlast with ⟨-, e⟩ | ⟨-, -, -, e⟩ | ⟨-, -, -, e⟩ | ⟨-, -, e⟩ <;> rw [e]
      · rfl
      · exact publish_st ..
      · rfl
      · rfl
    rw [crsfTodo_of_sync hsync, crsfTodo_of_data hst]
    exact Nat.sub_pos_of_lt (BitVec.lt_def.1 (hroom hst))

/-! ### SumD -/

/-- The bytes the current SumD frame still needs at most: status, count, 32 channels and the CRC, or
the rest that was announced. -/
def sumdTodo (D : SumdDecoder) : Nat :=
  match D.st with
  | .sync => 0
  | .status => 68
  | .count => 67
  | .data => 2 * D.exp.toNat + 2 - D.idx.toNat

theorem sumdTodo_of_sync {D : SumdDecoder} (h : D.st = .sync) : sumdTodo D = 0 := by
  unfold sumdTodo
  rw [h]

theorem sumdTodo_of_status {D : SumdDecoder} (h : D.st = .status) : sumdTodo D = 68 := by
  unfold sumdTodo
  rw [h]

theorem sumdTodo_of_count {D : SumdDecoder} (h : D.st = .count) : sumdTodo D = 67 := by
  unfold sumdTodo
  rw [h]

theorem sumdTodo_of_data {D : SumdDecoder} (h : D.st = .data) :
    sumdTodo D = 2 * D.exp.toNat + 2 - D.idx.toNat := by
  unfold sumdTodo
  rw [h]

theorem sumdTodo_le {p : Params} (hp : p.wellFormed = true) {D : SumdDecoder} (h : SumdPhase p D) :
    sumdTodo D ≤ 68 := by
  obtain ⟨-, -, -, hmaxCh⟩ := wellFormed_bounds hp
  cases hst : D.st with
  | sync => rw [sumdTodo_of_sync hst]; decide
  | status => rw [sumdTodo_of_status hst]
  | count => rw [sumdTodo_of_count hst]; decide
  | data =>
    obtain ⟨-, hmax, -⟩ := (sumdPhase_of_data hst).1 h
    rw [BitVec.le_def] at hmax
    rw [sumdTodo_of_data hst]
    omega

theorem sumdStatus_todo_lt (p : Params) (b : Byte) (D : SumdDecoder) :
    sumdTodo (sumdStatus p b D) < 68 := by
  unfold sumdStatus
  split
  · rw [sumdTodo_of_count rfl]
    decide
  · rw [sumdTodo_of_sync rfl]
    decide

theorem sumdCount_todo_lt {p : Params} (hp : p.wellFormed = true) (b : Byte) (D : SumdDecoder) :
    sumdTodo (sumdCount p b D) < 67 := by
  obtain ⟨-, -, -, hmaxCh⟩ := wellFormed_bounds hp
  unfold sumdCount
  split
  · next hb =>
    obtain ⟨-, hmax⟩ := hb
    rw [BitVec.le_def] at hmax
    rw [sumdTodo_of_data rfl]
    change 2 * b.toNat + 2 - 0 < 67
    omega
  · rw [sumdTodo_of_sync rfl]
    decide

theorem sumdReceive_todo_lt {p : Params} (hp : p.wellFormed = true) (now : Word) (b : Byte)
    {D : SumdDecoder} (h : SumdPhase p D) (hidle : D.st.isIdle = false) :
    sumdTodo (sumdReceive p now b D).decoder < sumdTodo D := by
  rcases sumdReceive_cases p now b D with ⟨hst, -⟩ | ⟨hst, e⟩ | ⟨hst, e⟩ | ⟨hst, E, rfl, hlast⟩
  · rw [hst] at hidle
    cases hidle
  · rw [e, sumdTodo_of_status hst]
    exact sumdStatus_todo_lt p b D.clearGap
  · rw [e, sumdTodo_of_count hst]
    exact sumdCount_todo_lt hp b D.clearGap
  · obtain ⟨-, -, -, hmaxCh⟩ := wellFormed_bounds hp
    obtain ⟨-, hmax, hlt, -⟩ := (sumdPhase_of_data hst).1 h
    rw [BitVec.le_def] at hmax
    rw [sumdTodo_of_data hst]
    have hidx : (sumdStore p b D.clearGap).idx = D.idx + 1 := rfl
    have hexp : (sumdStore p b D.clearGap).exp = D.exp := rfl
    rcases hlast with ⟨hne, e⟩ | ⟨-, -, e⟩ | ⟨-, -, e⟩ <;> rw [e]
    · rw [Received.quiet_decoder, sumdTodo_of_data (D := sumdStore p b D.clearGap) hst, hexp, hidx]
      bv_omega
    · rw [Received.published_decoder, sumdTodo_of_sync rfl]
      exact Nat.sub_pos_of_lt hlt
    · rw [Received.quiet_decoder, sumdTodo_of_sync rfl]
      exact Nat.sub_pos_of_lt hlt

/-! ### A sequence of bytes -/

/-- Bytes of which each makes the number `todo` smaller until the decoder is idle: that many of them
bring it there. -/
theorem bytes_reach_idle {rx : Byte → Instr} {idle : State → Bool} {todo : State → Nat}
    (hstep : ∀ {b : Byte} {s t : State}, s.Inv → idle s = false → exec (rx b) s = .next t →
      todo t < todo s) {s : State} (hs : s.Inv) {n : Nat} (htodo : todo s ≤ n) {bs : List Byte}
    (hlen : bs.length = n) :
    ∃ k t, k ≤ n ∧ execAll ((bs.take k).map rx) s = .next t ∧ idle t = true := by
  subst hlen
  induction bs generalizing s with
  | nil =>
    cases hidle : idle s with
    | true => exact ⟨0, s, Nat.le_refl 0, rfl, hidle⟩
    | false =>
      obtain ⟨t, ht⟩ := exec_total (rx 0) s
      exact absurd (hstep hs hidle ht) (Nat.not_lt.mpr (Nat.le_zero.mp htodo ▸ Nat.zero_le _))
  | cons b bs ih =>
    cases hidle : idle s with
    | true => exact ⟨0, s, Nat.zero_le _, rfl, hidle⟩
    | false =>
      obtain ⟨u, hu⟩ := exec_total (rx b) s
      have hfewer : todo u ≤ bs.length :=
        Nat.le_of_lt_succ (Nat.lt_of_lt_of_le (hstep hs hidle hu) htodo)
      obtain ⟨k, t, hk, hrun, ht⟩ := ih (exec_keeps_inv hs hu) hfewer
      exact ⟨k + 1, t, Nat.succ_le_succ hk, by simpa [hu] using hrun, ht⟩

/-- Settles O53: a legal decoder that is not idle comes nearer to the end of its frame with every
byte. -/
theorem bytesReturnToIdle : Obligations.BytesReturnToIdle := by
  intro s hs
  have ⟨hp, _, _, hcrsf, _, hsumd⟩ := hs
  obtain ⟨-, -, -, -, -, -, -, hcrsf⟩ := crsfOk_iff.1 hcrsf
  obtain ⟨-, -, -, -, hsumd⟩ := sumdOk_iff.1 hsumd
  refine ⟨fun bs hlen => ?_, fun bs hlen => ?_, fun bs hlen => ?_, fun bs hlen => ?_⟩
  · refine bytes_reach_idle (todo := fun s => sbusTodo s.sbus) ?_ hs (sbusTodo_le s.sbus) hlen
    intro b s t ⟨_, hsbus, _⟩ hidle ht
    cases ht
    obtain ⟨-, -, -, -, -, -, hphase⟩ := sbusOk_iff.1 hsbus
    exact sbusReceive_todo_lt _ _ _ hphase hidle
  · refine bytes_reach_idle (todo := fun s => ibusTodo s.ibus) ?_ hs (ibusTodo_le s.ibus) hlen
    intro b s t ⟨_, _, hibus, _⟩ hidle ht
    cases ht
    obtain ⟨-, -, -, -, -, hphase⟩ := ibusOk_iff.1 hibus
    exact ibusReceive_todo_lt _ _ _ hphase hidle
  · refine bytes_reach_idle (todo := fun s => crsfTodo s.crsf) ?_ hs (crsfTodo_le hp hcrsf) hlen
    intro b s t ⟨hp, _, _, hcrsf, _⟩ hidle ht
    cases ht
    obtain ⟨-, -, -, -, -, -, -, hphase⟩ := crsfOk_iff.1 hcrsf
    exact crsfReceive_todo_lt hp _ _ _ hphase hidle
  · refine bytes_reach_idle (todo := fun s => sumdTodo s.sumd) ?_ hs (sumdTodo_le hp hsumd) hlen
    intro b s t ⟨hp, _, _, _, _, hsumd⟩ hidle ht
    cases ht
    obtain ⟨-, -, -, -, hphase⟩ := sumdOk_iff.1 hsumd
    exact sumdReceive_todo_lt hp _ _ hphase hidle

end Sys2Proof.Machine
end

section
/-! SUPPORT. The running checksums of the IBus, CRSF and SumD decoders are those of the buffered bytes,
and the mirrored CRSF frame carries its own CRC-8 (R241, R283, R331, R37). -/

namespace Sys2Proof.Machine

/-! ### Runs of buffer bytes under a write -/

section
variable {σ : Type} {n cap : Nat}

/-- A run of bytes depends on the buffer alone. -/
theorem Decoder.bytes_congr {D E : Decoder σ n cap} (h : D.buf = E.buf) (first len : Nat) :
    D.bytes first len = E.bytes first len :=
  List.map_congr_left fun _ _ => Decoder.byte_congr h _

/-- A write past the end of a run leaves the run alone. -/
theorem Decoder.bytes_putByte_of_le (D : Decoder σ n cap) {first len i : Nat} (b : Byte)
    (h : first + len ≤ i) : (D.putByte i b).bytes first len = D.bytes first len := by
  refine List.map_congr_left fun j hj => D.byte_putByte_ne i _ b ?_
  have := List.mem_range.mp hj
  omega

/-- A byte written right after a run joins it. -/
theorem Decoder.bytes_putByte_next (D : Decoder σ n cap) {first len i : Nat} (b : Byte)
    (hi : i = first + len) (hroom : i < n) :
    (D.putByte i b).bytes first (len + 1) = D.bytes first len ++ [b] := by
  rw [Decoder.bytes_succ, D.bytes_putByte_of_le b hi.ge, ← hi, D.byte_putByte_same i b hroom]

/-- A run of bytes that ends at the write position, or earlier at `limit`: the byte written there
joins the run if the limit has room for it. -/
theorem Decoder.bytes_putByte_min (D : Decoder σ n cap) {first len limit i : Nat} (b : Byte)
    (hi : i = first + len) (hroom : len < limit → i < n) :
    (D.putByte i b).bytes first (min (len + 1) limit) =
      if len < limit then D.bytes first (min len limit) ++ [b]
      else D.bytes first (min len limit) := by
  by_cases hlt : len < limit
  · rw [if_pos hlt, Nat.min_eq_left hlt, Nat.min_eq_left hlt.le,
      D.bytes_putByte_next b hi (hroom hlt)]
  · rw [if_neg hlt, Nat.min_eq_right (by omega), Nat.min_eq_right (by omega),
      D.bytes_putByte_of_le b (by omega)]

end

/-! ### IBus (R241) -/

theorem ibusSummed_of_idle {p : Params} {D : IbusDecoder} (h : D.st = .idle) : IbusSummed p D :=
  .inl h

theorem IbusSummed.acc_eq {p : Params} {D : IbusDecoder} (h : IbusSummed p D) (hst : D.st ≠ .idle) :
    D.acc = ibusSum p.ibusSeed (D.bytes 0 (min D.idx.toNat 30)) := h.resolve_left hst

/-- The sum depends on the FSM state, the index, the sum itself and the buffer alone. -/
theorem IbusSummed.congr {p : Params} {D E : IbusDecoder} (h : IbusSummed p D) (hst : E.st = D.st)
    (hidx : E.idx = D.idx) (hacc : E.acc = D.acc) (hbuf : E.buf = D.buf) : IbusSummed p E := by
  unfold IbusSummed at *
  rwa [hst, hidx, hacc, Decoder.bytes_congr hbuf]

theorem ibusHunt_summed {p : Params} (b : Byte) {D : IbusDecoder} (hst : D.st = .idle) :
    IbusSummed p (ibusHunt p b D) := by
  unfold ibusHunt
  split
  · have hbytes : (D.putByte 0 b).bytes 0 1 = [b] :=
      D.bytes_putByte_next b rfl (by decide)
    refine .inr (Eq.trans ?_ (congrArg (ibusSum p.ibusSeed) hbytes.symm))
    rfl
  · exact ibusSummed_of_idle hst

theorem ibusHeader_summed {p : Params} (b : Byte) {D : IbusDecoder} (hst : D.st = .hdr)
    (hidx : D.idx = 1) (h : IbusSummed p D) : IbusSummed p (ibusHeader p b D) := by
  unfold ibusHeader
  split
  · have hacc := h.acc_eq (by simp [hst])
    rw [hidx] at hacc
    have hbytes : (D.putByte 1 b).bytes 0 2 = D.bytes 0 1 ++ [b] :=
      D.bytes_putByte_next b rfl (by decide)
    refine .inr (Eq.trans ?_ (congrArg (ibusSum p.ibusSeed) hbytes.symm))
    rw [ibusSum_snoc]
    exact congrArg (sum16Step · b) hacc
  · exact ibusSummed_of_idle rfl

theorem ibusStore_summed {p : Params} (b : Byte) {D : IbusDecoder} (hst : D.st = .data)
    (hidx : D.idx.toNat < 32) (h : IbusSummed p D) : IbusSummed p (ibusStore b D) := by
  have hnext : (ibusStore b D).idx.toNat = D.idx.toNat + 1 := by
    show (D.idx + 1).toNat = _
    bv_omega
  have hbytes : (ibusStore b D).bytes 0 (min (D.idx.toNat + 1) 30) = _ :=
    D.bytes_putByte_min b (Nat.zero_add _).symm fun _ => hidx
  refine .inr ?_
  rw [hnext, hbytes, apply_ite (ibusSum p.ibusSeed), ibusSum_snoc,
    ← h.acc_eq (by simp [hst])]
  rfl

theorem ibusReceive_summed {p : Params} (now : Word) (b : Byte) {D : IbusDecoder}
    (hphase : IbusPhase p D) (h : IbusSummed p D) :
    IbusSummed p (ibusReceive p now b D).decoder := by
  have hclear : IbusSummed p D.clearGap := h
  rcases ibusReceive_cases p now b D with
    ⟨hst, e⟩ | ⟨hst, e⟩ | ⟨hst, -, e⟩ | ⟨-, -, -, e⟩ | ⟨-, -, -, e⟩ <;> rw [e]
  · exact ibusHunt_summed b (D := D.clearGap) hst
  · obtain ⟨hidx, -⟩ := (ibusPhase_of_hdr hst).1 hphase
    exact ibusHeader_summed b hst hidx hclear
  · obtain ⟨-, hidx, -⟩ := (ibusPhase_of_data hst).1 hphase
    exact ibusStore_summed b hst hidx hclear
  · exact ibusSummed_of_idle rfl
  · exact ibusSummed_of_idle rfl

theorem tickDecoder_ibusSummed {p : Params} {D : IbusDecoder} (h : IbusSummed p D) :
    IbusSummed p (tickDecoder ibusProtocol p D) := by
  obtain ⟨hfsm, hacc, hbuf, -⟩ := tickDecoder_frame ibusProtocol p D
  rcases hfsm with ⟨hst, hidx, -⟩ | ⟨hst, -⟩
  · exact h.congr hst hidx hacc hbuf
  · exact ibusSummed_of_idle hst

/-! ### CRSF (R283) -/

theorem crsfSummed_of_ne_data {p : Params} {D : CrsfDecoder} (h : D.st ≠ .data) : CrsfSummed p D :=
  fun hst => absurd hst h

/-- The CRC depends on the FSM state, the index, the count, the CRC itself and the buffer alone. -/
theorem CrsfSummed.congr {p : Params} {D E : CrsfDecoder} (h : CrsfSummed p D) (hst : E.st = D.st)
    (hidx : E.idx = D.idx) (hexp : E.exp = D.exp) (hacc : E.acc = D.acc) (hbuf : E.buf = D.buf) :
    CrsfSummed p E := by
  unfold CrsfSummed at *
  rwa [hst, hidx, hexp, hacc, Decoder.bytes_congr hbuf]

@[simp] theorem lowByte_setWidth (c : Byte) : lowByte (c.setWidth 16) = c := by
  unfold lowByte
  rw [extractLsb'_eq_iff]
  intro i hi
  simp [show i < 16 by omega]

theorem crsfHunt_summed {p : Params} (b : Byte) {D : CrsfDecoder} (hst : D.st = .sync) :
    CrsfSummed p (crsfHunt p b D) := by
  unfold crsfHunt
  split
  · exact crsfSummed_of_ne_data nofun
  · exact crsfSummed_of_ne_data (by simp [hst])

theorem crsfLength_summed (p : Params) (b : Byte) (D : CrsfDecoder) :
    CrsfSummed p (crsfLength p b D) := by
  unfold crsfLength
  split
  · intro _
    show p.crc8Init.setWidth 16 =
      (crc8 p.crc8Poly p.crc8Init (Decoder.bytes _ 2 (min 0 _))).setWidth 16
    rw [Nat.zero_min]
    rfl
  · exact crsfSummed_of_ne_data nofun

/-- A stored byte joins the CRC unless it is the frame's last, the CRC byte. -/
theorem crsfStore_summed {p : Params} (hp : p.wellFormed = true) (b : Byte) {D : CrsfDecoder}
    (hst : D.st = .data) (hphase : CrsfPhase p D) (h : CrsfSummed p D) :
    CrsfSummed p (crsfStore p b D) := by
  obtain ⟨-, hlenMax, -, -⟩ := wellFormed_bounds hp
  obtain ⟨-, hmax, hidx, -⟩ := (crsfPhase_of_data hst).1 hphase
  rw [BitVec.le_def] at hmax
  rw [BitVec.lt_def] at hidx
  have hnext : (crsfStore p b D).idx.toNat = D.idx.toNat + 1 := by
    show (D.idx + 1).toNat = _
    bv_omega
  have hbytes : (crsfStore p b D).bytes 2 (min (D.idx.toNat + 1) (D.exp.toNat - 1)) = _ :=
    D.bytes_putByte_min b rfl fun _ => by omega
  have hroom : D.idx.toNat < D.exp.toNat - 1 ↔ D.idx.toNat + 1 < D.exp.toNat := by omega
  intro _
  show (if _ then _ else _) = (crc8 _ _ (Decoder.bytes _ 2 (min _ (D.exp.toNat - 1)))).setWidth 16
  rw [hnext, hbytes, h hst, lowByte_setWidth]
  simp only [hroom, apply_ite (crc8 p.crc8Poly p.crc8Init), crc8_snoc, apply_ite (BitVec.setWidth 16)]

theorem crsfReceive_summed {p : Params} (hp : p.wellFormed = true) (now : Word) (b : Byte)
    {D : CrsfDecoder} (m : Mirror) (hphase : CrsfPhase p D) (h : CrsfSummed p D) :
    CrsfSummed p (crsfReceive p now b D m).decoder.decoder := by
  have hclear : CrsfSummed p D.clearGap := h
  rcases crsfReceive_cases p now b D m with
    ⟨hst, e⟩ | ⟨-, e⟩ | ⟨hst, -, e⟩ | ⟨-, -, E, F, -, rfl, hlast⟩
  · rw [e]
    exact crsfHunt_summed b (D := D.clearGap) hst
  · rw [e]
    exact crsfLength_summed p b D.clearGap
  · rw [e]
    exact crsfStore_summed hp b (D := D.clearGap) hst hphase hclear
  · rcases hlast with ⟨-, e⟩ | ⟨-, -, -, e⟩ | ⟨-, -, -, e⟩ | ⟨-, -, e⟩ <;> rw [e] <;>
      refine crsfSummed_of_ne_data ?_
    · exact nofun
    · simp [crsfPublish]
    · exact nofun
    · exact nofun

theorem tickDecoder_crsfSummed {p : Params} {D : CrsfDecoder} (h : CrsfSummed p D) :
    CrsfSummed p (tickDecoder crsfProtocol p D) := by
  obtain ⟨hfsm, hacc, hbuf, -⟩ := tickDecoder_frame crsfProtocol p D
  rcases hfsm with ⟨hst, hidx, hexp⟩ | ⟨hst, -⟩
  · exact h.congr hst hidx hexp hacc hbuf
  · exact crsfSummed_of_ne_data (by rw [hst]; exact nofun)

/-! ### The mirrored frame (R37) -/

theorem mirrorOf_len (p : Params) {D : CrsfDecoder} (hmax : (D.byte 1).toNat ≤ 62) :
    (mirrorOf p D).len.toNat = (D.byte 1).toNat := by
  have : (D.byte 1).toNat % 2 ^ 6 = (D.byte 1).toNat := Nat.mod_eq_of_lt (by omega)
  simpa [mirrorOf] using this

/-- The mirror of a frame whose CRC byte is the CRC-8 of its type and payload. -/
theorem mirrorOf_summed {p : Params} {D : CrsfDecoder} (hmin : 2 ≤ (D.byte 1).toNat)
    (hmax : (D.byte 1).toNat ≤ 62)
    (hcrc : D.byte ((D.byte 1).toNat + 1) =
      crc8 p.crc8Poly p.crc8Init (D.bytes 2 ((D.byte 1).toNat - 1))) :
    MirrorSummed p (mirrorOf p D) := by
  have hbyte : ∀ i, i ≤ (D.byte 1).toNat + 1 → (mirrorOf p D).byte i = D.byte i :=
    fun i hi => (mirrorOf_byte p D (by omega)).trans (if_pos hi)
  unfold MirrorSummed
  intro _
  rw [mirrorOf_len p hmax, hbyte _ le_rfl, hcrc]
  refine congrArg (crc8 p.crc8Poly p.crc8Init) (List.map_congr_left fun i hi => (hbyte _ ?_).symm)
  have := List.mem_range.mp hi
  omega

/-- A byte leaves the mirror as it was, or mirrors a frame that its CRC byte completes: the CRC before
that byte is the one of the whole type and payload. -/
theorem crsfReceive_mirrorSummed {p : Params} (hp : p.wellFormed = true) (now : Word) (b : Byte)
    {D : CrsfDecoder} {m : Mirror} (hphase : CrsfPhase p D) (h : CrsfSummed p D)
    (hm : MirrorSummed p m) : MirrorSummed p (crsfReceive p now b D m).decoder.mirror := by
  rcases crsfReceive_cases p now b D m with
    ⟨-, e⟩ | ⟨-, e⟩ | ⟨-, -, e⟩ | ⟨hst, hnext, E, F, rfl, -, hlast⟩
  · rwa [e]
  · rwa [e]
  · rwa [e]
  · have hmirror : lowByte (crsfStore p b D.clearGap).acc = b →
        MirrorSummed p (mirrorOf p (crsfStore p b D.clearGap)) := by
      intro hcrc
      obtain ⟨hlenMin, hlenMax, -, -⟩ := wellFormed_bounds hp
      obtain ⟨hmin, hmax, hidx, -, hbyte1⟩ := (crsfPhase_of_data hst).1 hphase
      rw [BitVec.le_def] at hmin hmax
      have hidx' : D.exp.toNat = D.idx.toNat + 1 := by bv_omega
      have hlen : (crsfStore p b D.clearGap).byte 1 = D.exp :=
        (crsfStore_head p b D.clearGap).2.trans hbyte1
      have hlast : (crsfStore p b D.clearGap).byte (D.exp.toNat + 1) = b := by
        rw [hidx', show D.idx.toNat + 1 + 1 = 2 + D.idx.toNat by omega]
        exact D.clearGap.byte_putByte_same _ b (by rw [Decoder.clearGap_idx]; omega)
      have hacc : (crsfStore p b D.clearGap).acc = _ :=
        crsfStore_summed hp b (D := D.clearGap) hst hphase h hst
      have hwhole : min (crsfStore p b D.clearGap).idx.toNat
          ((crsfStore p b D.clearGap).exp.toNat - 1) = D.exp.toNat - 1 := by
        show min (D.idx + 1).toNat (D.exp.toNat - 1) = _
        rw [hnext]
        omega
      rw [hwhole] at hacc
      refine mirrorOf_summed (by rw [hlen]; omega) (by rw [hlen]; omega) ?_
      rw [hlen, hlast, ← lowByte_setWidth (crc8 _ _ _), ← hacc, hcrc]
    rcases hlast with ⟨-, e⟩ | ⟨hcrc, -, -, e⟩ | ⟨hcrc, -, -, e⟩ | ⟨hcrc, -, e⟩ <;> rw [e]
    · exact hm
    · exact hmirror hcrc
    · exact hmirror hcrc
    · exact hmirror hcrc

/-! ### SumD (R331) -/

theorem sumdSummed_of_sync {p : Params} {D : SumdDecoder} (h : D.st = .sync) : SumdSummed p D := by
  unfold SumdSummed
  rw [h]
  trivial

theorem sumdSummed_of_status {p : Params} {D : SumdDecoder} (h : D.st = .status) :
    SumdSummed p D ↔ D.acc = crc16 p.sumdCrcPoly p.sumdCrcInit (D.bytes 0 1) := by
  unfold SumdSummed
  rw [h]

theorem sumdSummed_of_count {p : Params} {D : SumdDecoder} (h : D.st = .count) :
    SumdSummed p D ↔ D.acc = crc16 p.sumdCrcPoly p.sumdCrcInit (D.bytes 0 2) := by
  unfold SumdSummed
  rw [h]

theorem sumdSummed_of_data {p : Params} {D : SumdDecoder} (h : D.st = .data) :
    SumdSummed p D ↔ D.acc = crc16 p.sumdCrcPoly p.sumdCrcInit
      (D.bytes 0 (min (3 + D.idx.toNat) (3 + 2 * D.exp.toNat))) := by
  unfold SumdSummed
  rw [h, Nat.add_min_add_left]

/-- The CRC depends on the FSM state, the index, the count, the CRC itself and the buffer alone. -/
theorem SumdSummed.congr {p : Params} {D E : SumdDecoder} (h : SumdSummed p D) (hst : E.st = D.st)
    (hidx : E.idx = D.idx) (hexp : E.exp = D.exp) (hacc : E.acc = D.acc) (hbuf : E.buf = D.buf) :
    SumdSummed p E := by
  unfold SumdSummed at *
  simpa only [hst, hidx, hexp, hacc, Decoder.bytes_congr hbuf] using h

theorem sumdHunt_summed {p : Params} (b : Byte) {D : SumdDecoder} (hst : D.st = .sync) :
    SumdSummed p (sumdHunt p b D) := by
  unfold sumdHunt
  split
  · have hbytes : (D.putByte 0 b).bytes 0 1 = [b] :=
      D.bytes_putByte_next b rfl (by decide)
    refine (sumdSummed_of_status rfl).2 (Eq.trans ?_ (congrArg (crc16 _ _) hbytes.symm))
    rfl
  · exact sumdSummed_of_sync hst

theorem sumdStatus_summed {p : Params} (b : Byte) {D : SumdDecoder} (hst : D.st = .status)
    (h : SumdSummed p D) : SumdSummed p (sumdStatus p b D) := by
  unfold sumdStatus
  split
  · have hbytes : (D.putByte 1 b).bytes 0 2 = D.bytes 0 1 ++ [b] :=
      D.bytes_putByte_next b rfl (by decide)
    refine (sumdSummed_of_count rfl).2 (Eq.trans ?_ (congrArg (crc16 _ _) hbytes.symm))
    rw [crc16_snoc, ← (sumdSummed_of_status hst).1 h]
  · exact sumdSummed_of_sync rfl

theorem sumdCount_summed {p : Params} (b : Byte) {D : SumdDecoder} (hst : D.st = .count)
    (h : SumdSummed p D) : SumdSummed p (sumdCount p b D) := by
  unfold sumdCount
  split
  · have hbytes : (D.putByte 2 b).bytes 0 3 = D.bytes 0 2 ++ [b] :=
      D.bytes_putByte_next b rfl (by decide)
    refine (sumdSummed_of_data rfl).2 ?_
    show _ = crc16 _ _ (Decoder.bytes _ 0 (min (3 + 0) _))
    rw [Nat.min_eq_left (by omega)]
    refine Eq.trans ?_ (congrArg (crc16 _ _) hbytes.symm)
    rw [crc16_snoc, ← (sumdSummed_of_count hst).1 h]
  · exact sumdSummed_of_sync rfl

/-- A stored byte joins the CRC unless it is one of the frame's last two, the CRC bytes. -/
theorem sumdStore_summed {p : Params} (hp : p.wellFormed = true) (b : Byte) {D : SumdDecoder}
    (hst : D.st = .data) (hphase : SumdPhase p D) (h : SumdSummed p D) :
    SumdSummed p (sumdStore p b D) := by
  obtain ⟨-, -, -, hmaxCh⟩ := wellFormed_bounds hp
  obtain ⟨-, hmax, hidx, -⟩ := (sumdPhase_of_data hst).1 hphase
  rw [BitVec.le_def] at hmax
  have hnext : (sumdStore p b D).idx.toNat = D.idx.toNat + 1 := by
    show (D.idx + 1).toNat = _
    bv_omega
  have hbytes : (sumdStore p b D).bytes 0 (min (3 + D.idx.toNat + 1) (3 + 2 * D.exp.toNat)) = _ :=
    D.bytes_putByte_min b (Nat.zero_add _).symm fun _ => by omega
  refine (sumdSummed_of_data (D := sumdStore p b D) hst).2 ?_
  show (if _ then _ else _) = crc16 _ _ (Decoder.bytes _ 0 (min _ (3 + 2 * D.exp.toNat)))
  rw [hnext, ← Nat.add_assoc, hbytes, (sumdSummed_of_data hst).1 h]
  simp only [Nat.add_lt_add_iff_left, apply_ite (crc16 p.sumdCrcPoly p.sumdCrcInit), crc16_snoc]

theorem sumdReceive_summed {p : Params} (hp : p.wellFormed = true) (now : Word) (b : Byte)
    {D : SumdDecoder} (hphase : SumdPhase p D) (h : SumdSummed p D) :
    SumdSummed p (sumdReceive p now b D).decoder := by
  have hclear : SumdSummed p D.clearGap := h
  rcases sumdReceive_cases p now b D with ⟨hst, e⟩ | ⟨hst, e⟩ | ⟨hst, e⟩ | ⟨hst, E, rfl, hlast⟩
  · rw [e]
    exact sumdHunt_summed b (D := D.clearGap) hst
  · rw [e]
    exact sumdStatus_summed b hst hclear
  · rw [e]
    exact sumdCount_summed b hst hclear
  · rcases hlast with ⟨-, e⟩ | ⟨-, -, e⟩ | ⟨-, -, e⟩ <;> rw [e]
    · exact sumdStore_summed hp b (D := D.clearGap) hst hphase hclear
    · exact sumdSummed_of_sync rfl
    · exact sumdSummed_of_sync rfl

theorem tickDecoder_sumdSummed {p : Params} {D : SumdDecoder} (h : SumdSummed p D) :
    SumdSummed p (tickDecoder sumdProtocol p D) := by
  obtain ⟨hfsm, hacc, hbuf, -⟩ := tickDecoder_frame sumdProtocol p D
  rcases hfsm with ⟨hst, hidx, hexp⟩ | ⟨hst, -⟩
  · exact h.congr hst hidx hexp hacc hbuf
  · exact sumdSummed_of_sync hst

/-! ### Under every command -/

/-- Every command keeps the checksums: an RX and a TICK by the lemma of each decoder they act on, an
ABORT because it drops the frame, RESET because it holds at reset, and the others leave the decoders
alone. -/
theorem exec_keeps_summed {i : Instr} {s t : State} (hs : s.Inv) (hsum : s.Summed)
    (h : exec i s = .next t) : t.Summed := by
  have ⟨hp, _, hibusOk, hcrsfOk, _, hsumdOk⟩ := hs
  have ⟨hibus, hcrsf, hsumd, hmirror⟩ := hsum
  obtain ⟨-, -, -, -, -, hibusPhase⟩ := ibusOk_iff.1 hibusOk
  obtain ⟨-, -, -, -, -, -, -, hcrsfPhase⟩ := crsfOk_iff.1 hcrsfOk
  obtain ⟨-, -, -, -, hsumdPhase⟩ := sumdOk_iff.1 hsumdOk
  cases i with
  | rxSbus b =>
    cases h
    exact hsum
  | rxIbus b =>
    cases h
    exact ⟨ibusReceive_summed _ b hibusPhase hibus, hcrsf, hsumd, hmirror⟩
  | rxCrsf b =>
    cases h
    exact ⟨hibus, crsfReceive_summed hp _ b _ hcrsfPhase hcrsf, hsumd,
      crsfReceive_mirrorSummed hp _ b hcrsfPhase hcrsf hmirror⟩
  | rxSumd b =>
    cases h
    exact ⟨hibus, hcrsf, sumdReceive_summed hp _ b hsumdPhase hsumd, hmirror⟩
  | tick =>
    cases h
    exact ⟨tickDecoder_ibusSummed hibus, tickDecoder_crsfSummed hcrsf,
      tickDecoder_sumdSummed hsumd, hmirror⟩
  | abortIbus =>
    cases h
    exact ⟨ibusSummed_of_idle rfl, hcrsf, hsumd, hmirror⟩
  | abortCrsf =>
    cases h
    exact ⟨hibus, crsfSummed_of_ne_data nofun, hsumd, hmirror⟩
  | abortSumd =>
    cases h
    exact ⟨hibus, hcrsf, sumdSummed_of_sync rfl, hmirror⟩
  | reset =>
    cases h
    exact State.resetWith_summed s.params
  | _ =>
    simp at h
    subst h
    exact hsum

/-- Settles O39: a step is a command, an illegal word or nothing (`step_cases`). -/
theorem stepKeepsChecksums : Obligations.StepKeepsChecksums := by
  intro s t hs hsum h
  rcases step_cases s with e | ⟨i, rest, e⟩ | ⟨rest, e⟩ <;> rw [e] at h
  · cases h
    exact hsum
  · exact exec_keeps_summed (s := s.setPending rest) hs hsum h
  · cases h
    exact hsum

end Sys2Proof.Machine
end

section
/-! SUPPORT. What `RX.IBUS` does (R243), and a whole IBus frame from `Idle`: how its bytes are collected
and summed, and what is published of it (R244 to R247). -/

namespace Sys2Proof.Machine

/-! ### One byte, in each FSM state -/

/-- A byte before the 32nd is not judged (R243). -/
theorem ibusJudge_of_ne (p : Params) (now : Word) {D : IbusDecoder} (h : D.idx ≠ 32) :
    ibusJudge p now D = .quiet D := if_neg h

theorem ibusJudge_of_valid (p : Params) (now : Word) {D : IbusDecoder} (hidx : D.idx = 32)
    (h : ibusValid D = true) : ibusJudge p now D = .published (ibusPublish p now D) :=
  (if_pos hidx).trans (if_pos h)

theorem ibusJudge_of_invalid (p : Params) (now : Word) {D : IbusDecoder} (hidx : D.idx = 32)
    (h : ¬ ibusValid D = true) : ibusJudge p now D = .quiet (checksumError ibusProtocol D) :=
  (if_pos hidx).trans (if_neg h)

/-- The check of R242. -/
theorem ibusValid_iff (D : IbusDecoder) :
    ibusValid D = true ↔ D.byte 30 = lowByte D.acc ∧ D.byte 31 = highByte D.acc :=
  decide_eq_true_iff

/-- Settles O14: each FSM state by the equation of the receiver in it, and in `Data` each case of the
judgement of the stored byte. -/
theorem rxIbusResult : Obligations.RxIbusResult := by
  intro b s
  refine ⟨_, _, exec_rxIbus b s, fun hst => ?_, fun hst => ?_, fun hst => ?_⟩
  · rw [ibusReceive_of_idle _ _ _ hst, Received.resp_quiet]
    exact ⟨rfl, fun hb => if_pos hb, fun hb => if_neg hb⟩
  · rw [ibusReceive_of_hdr _ _ _ hst, Received.resp_quiet]
    exact ⟨rfl, fun hb => if_pos hb, fun hb => if_neg hb⟩
  · rw [ibusReceive_of_data _ _ _ hst]
    refine ⟨ibusStore b s.ibus.clearGap, rfl, fun hidx => ?_, fun hidx hsum => ?_,
      fun hidx hsum => ?_⟩
    · rw [ibusJudge_of_ne _ _ hidx, Received.resp_quiet]
      exact ⟨rfl, rfl⟩
    · rw [ibusJudge_of_valid _ _ hidx ((ibusValid_iff _).2 hsum), Received.resp_published]
      exact ⟨rfl, rfl⟩
    · rw [ibusJudge_of_invalid _ _ hidx (mt (ibusValid_iff _).1 hsum), Received.resp_quiet]
      exact ⟨rfl, rfl⟩

/-! ### The bytes of a frame from `Idle` -/

theorem rxsIbus_append (bs cs : List Byte) : rxsIbus (bs ++ cs) = rxsIbus bs ++ rxsIbus cs :=
  List.map_append

theorem rxsIbus_singleton (b : Byte) : rxsIbus [b] = [.rxIbus b] := rfl

/-- An idle decoder `D` after the bytes `bs`, which begin with the two header bytes, all of them
stored and none judged. -/
def ibusCollected (p : Params) (bs : List Byte) (D : IbusDecoder) : IbusDecoder :=
  { D with
    gap := 0
    buf := storeFrom D.buf 0 bs
    acc := ibusSum p.ibusSeed (bs.take 30)
    idx := BitVec.ofNat 8 bs.length
    st := .data }

theorem ibusCollected_byte (p : Params) {bs : List Byte} (D : IbusDecoder) {i : Nat}
    (hi : i < bs.length) (hlen : bs.length ≤ 32) : (ibusCollected p bs D).byte i = bs.getD i 0 := by
  have hin : 0 ≤ i ∧ i < 0 + bs.length ∧ i < 32 := by omega
  rw [Decoder.byte, ibusCollected, storeFrom_getElem?, if_pos hin]
  rfl

theorem ibusCollected_idx_eq_iff (p : Params) {bs : List Byte} (D : IbusDecoder)
    (hlen : bs.length ≤ 32) : (ibusCollected p bs D).idx = 32 ↔ bs.length = 32 := by
  rw [← BitVec.toNat_inj, ibusCollected, toNat_ofNat_of_lt_256 (by omega)]
  rfl

/-- One more byte stored; from frame byte 30 on it is not summed (R241). -/
theorem ibusStore_collected (p : Params) {bs : List Byte} (b : Byte) (D : IbusDecoder)
    (hlen : bs.length < 32) :
    ibusStore b (ibusCollected p bs D).clearGap = ibusCollected p (bs ++ [b]) D := by
  have hidx := toNat_ofNat_of_lt_256 (n := bs.length) (by omega)
  have hsucc : BitVec.ofNat 8 bs.length + 1 = BitVec.ofNat 8 (bs ++ [b]).length := by
    rw [List.length_append, BitVec.ofNat_add]
    rfl
  have hsummed : BitVec.ofNat 8 bs.length < 30 ↔ bs.length < 30 := by
    rw [BitVec.lt_def, hidx]
    rfl
  have hacc : (if bs.length < 30 then sum16Step (ibusSum p.ibusSeed (bs.take 30)) b
      else ibusSum p.ibusSeed (bs.take 30)) = ibusSum p.ibusSeed ((bs ++ [b]).take 30) := by
    split
    · rw [List.take_of_length_le (by omega), List.take_of_length_le (by simp; omega), ibusSum_snoc]
    · rw [List.take_append_of_le_length (by omega)]
  simp only [ibusStore, ibusCollected, Decoder.clearGap, Decoder.putByte, hidx, hsucc, hsummed,
    hacc, storeFrom_append, Nat.zero_add]
  rfl

/-- The first header byte and the byte after it (R243). -/
theorem execAll_ibus_two (s : State) (b : Byte) (hst : s.ibus.st = .idle) :
    execAll (rxsIbus [s.params.ibusHdr0, b]) s =
      .next ((s.setIbus (ibusHeader s.params b
        (ibusHunt s.params s.params.ibusHdr0 s.ibus.clearGap).clearGap)).setResp (respOk 0)) := by
  have hhdr : (ibusHunt s.params s.params.ibusHdr0 s.ibus.clearGap).st = .hdr := by
    rw [ibusHunt, if_pos rfl]
  simp only [rxsIbus, List.map_cons, List.map_nil, execAll_cons, execAll_nil, exec_rxIbus,
    andThen_next, ibusReceive_of_idle _ _ _ hst, ibusReceive_of_hdr _ _ _ hhdr,
    Received.quiet_decoder, Received.resp_quiet, State.setResp_ibus, State.setIbus_ibus,
    State.setResp_params, State.setIbus_params]
  rfl

/-- The two header bytes (R243). -/
theorem execAll_ibus_header (s : State) (hst : s.ibus.st = .idle) :
    execAll (rxsIbus [s.params.ibusHdr0, s.params.ibusHdr1]) s =
      .next ((s.setIbus (ibusCollected s.params [s.params.ibusHdr0, s.params.ibusHdr1]
        s.ibus)).setResp (respOk 0)) := by
  rw [execAll_ibus_two s _ hst, ibusHunt, if_pos rfl, ibusHeader, if_pos rfl]
  rfl

/-- The header bytes and up to 30 more, whatever they are: the bytes are collected, and the last of
them is judged. -/
theorem execAll_ibus_bytes (s : State) (bs : List Byte) (hst : s.ibus.st = .idle)
    (hlen : bs.length ≤ 30) (E : IbusDecoder)
    (hE : E = ibusCollected s.params (s.params.ibusHdr0 :: s.params.ibusHdr1 :: bs) s.ibus) :
    execAll (rxsIbus (s.params.ibusHdr0 :: s.params.ibusHdr1 :: bs)) s =
      .next ((s.setIbus (ibusJudge s.params s.ticks E).decoder).setResp
        (ibusJudge s.params s.ticks E).resp) := by
  subst hE
  induction bs using List.reverseRecOn with
  | nil =>
    rw [execAll_ibus_header s hst, ibusJudge_of_ne _ _ (by simp [ibusCollected]),
      Received.resp_quiet, Received.quiet_decoder]
  | append_singleton bs b ih =>
    rw [List.length_append, List.length_singleton] at hlen
    have hshort : (s.params.ibusHdr0 :: s.params.ibusHdr1 :: bs).length < 32 := by simp; omega
    have hquiet := ibusJudge_of_ne s.params s.ticks
      (mt (ibusCollected_idx_eq_iff s.params s.ibus hshort.le).1 hshort.ne)
    rw [← List.cons_append, ← List.cons_append, rxsIbus_append, execAll_append, ih (by omega),
      andThen_next, hquiet, rxsIbus_singleton, execAll_singleton, exec_rxIbus]
    simp only [State.setResp_ibus, State.setIbus_ibus, State.setResp_params, State.setIbus_params,
      Received.quiet_decoder, ibusReceive_of_data _ _ _ (rfl : (ibusCollected _ _ _).st = .data),
      ibusStore_collected s.params b s.ibus hshort]
    rfl

/-! ### The frame of R110 -/

theorem ibusBody_length (p : Params) {ch : List Half} (hlen : ch.length = 14) :
    (ibusBody p ch).length = 30 := by
  simp [ibusBody, hlen]

theorem ibusFrame_length (p : Params) {ch : List Half} (hlen : ch.length = 14) :
    (ibusFrame p ch).length = 32 := by
  simp [ibusFrame, ibusBody_length p hlen]

theorem ibusFrame_take (p : Params) {ch : List Half} (hlen : ch.length = 14) :
    (ibusFrame p ch).take 30 = ibusBody p ch :=
  List.take_left' (ibusBody_length p hlen)

/-- A frame is its two header bytes and 30 more. -/
theorem ibusFrame_eq_cons (p : Params) {ch : List Half} (hlen : ch.length = 14) :
    ∃ rest, rest.length = 30 ∧ ibusFrame p ch = p.ibusHdr0 :: p.ibusHdr1 :: rest :=
  ⟨_, Nat.add_right_cancel (m := 2) (ibusFrame_length p hlen), rfl⟩

theorem ibusFrame_checksum (p : Params) {ch : List Half} (hlen : ch.length = 14) :
    (ibusFrame p ch).getD 30 0 = lowByte (ibusSum p.ibusSeed (ibusBody p ch)) ∧
    (ibusFrame p ch).getD 31 0 = highByte (ibusSum p.ibusSeed (ibusBody p ch)) := by
  have hbody := ibusBody_length p hlen
  unfold ibusFrame
  rw [List.getD_append_right _ _ _ _ (by omega), List.getD_append_right _ _ _ _ (by omega), hbody]
  exact ⟨rfl, rfl⟩

/-- The bytes of a sequence of 16-bit words sent least significant byte first (R79). -/
theorem wireWords_getD (ch : List Half) (j : Nat) :
    (ch.flatMap fun c => [lowByte c, highByte c]).getD (2 * j) 0 = lowByte (ch.getD j 0) ∧
    (ch.flatMap fun c => [lowByte c, highByte c]).getD (2 * j + 1) 0 = highByte (ch.getD j 0) := by
  induction ch generalizing j with
  | nil => simp [lowByte, highByte]
  | cons c cs ih =>
    cases j with
    | zero => exact ⟨rfl, rfl⟩
    | succ j => exact ih j

/-- The two bytes of channel `j` in a frame (R110). -/
theorem ibusFrame_channel (p : Params) {ch : List Half} {j : Nat} (hlen : ch.length = 14)
    (hj : j < 14) : (ibusFrame p ch).getD (2 + 2 * j) 0 = lowByte (ch.getD j 0) ∧
      (ibusFrame p ch).getD (3 + 2 * j) 0 = highByte (ch.getD j 0) := by
  have hbody := ibusBody_length p hlen
  obtain ⟨hlow, hhigh⟩ := wireWords_getD ch j
  unfold ibusFrame
  rw [List.getD_append _ _ _ _ (by omega), List.getD_append _ _ _ _ (by omega), ← hlow, ← hhigh,
    show 2 + 2 * j = 2 * j + 1 + 1 by omega, show 3 + 2 * j = 2 * j + 1 + 1 + 1 by omega]
  exact ⟨rfl, rfl⟩

/-! ### What a frame decodes to (R244 to R246) -/

/-- The two bytes of a word give the word back (R79). -/
@[simp] theorem leHalf_lowByte_highByte (v : Half) : leHalf (lowByte v) (highByte v) = v := by
  apply BitVec.eq_of_getLsbD_eq
  intro i hi
  interval_cases i <;> simp [leHalf, lowByte, highByte]

/-- The bits of a compressed channel made of the upper nibbles of three words (R246). -/
theorem nibbles_of_words (u v w : Half) :
    nibbles (upperNibble (highByte u)) (upperNibble (highByte v)) (upperNibble (highByte w)) =
      ((u >>> 12) <<< 8) ||| ((v >>> 12) <<< 4) ||| (w >>> 12) := by
  apply BitVec.eq_of_getLsbD_eq
  intro i hi
  interval_cases i <;> simp [nibbles, upperNibble, highByte]

section
variable {p : Params} {ch : List Half} {D : IbusDecoder}

theorem ibusStandard_of_frame (mask : Half) (hlen : ch.length = 14)
    (hD : ∀ i, i < 32 → D.byte i = (ibusFrame p ch).getD i 0) :
    ibusStandard mask D = ch.map (· &&& mask) := by
  refine List.ext_getElem (by simp [ibusStandard, hlen]) fun j hj hj' => ?_
  have hj14 : j < 14 := by simpa [ibusStandard] using hj
  obtain ⟨hlow, hhigh⟩ := ibusFrame_channel p hlen hj14
  simp only [ibusStandard, List.getElem_map, List.getElem_range]
  rw [hD _ (by omega), hD _ (by omega), hlow, hhigh, leHalf_lowByte_highByte,
    List.getD_eq_getElem]

theorem ibusCompressed_of_frame (hlen : ch.length = 14)
    (hD : ∀ i, i < 32 → D.byte i = (ibusFrame p ch).getD i 0) (k : Fin 4) :
    ibusCompressed .upperNibbles D k =
      (((ch.getD (3 * k + 2) 0) >>> 12) <<< 8) ||| (((ch.getD (3 * k + 1) 0) >>> 12) <<< 4) |||
        ((ch.getD (3 * k) 0) >>> 12) := by
  have hhigh : ∀ j i, j < 14 → i = 3 + 2 * j → D.byte i = highByte (ch.getD j 0) := by
    rintro j i hj rfl
    rw [hD _ (by omega), (ibusFrame_channel p hlen hj).2]
  rw [ibusCompressed, hhigh (3 * k + 2) _ (by omega) (by omega),
    hhigh (3 * k + 1) _ (by omega) (by omega), hhigh (3 * k) _ (by omega) (by omega),
    nibbles_of_words]

theorem ibusDecode_standard (hlen : ch.length = 14)
    (hD : ∀ i, i < 32 → D.byte i = (ibusFrame p ch).getD i 0) {k : Nat} (hk : k < ch.length)
    (hk' : k < (ibusDecode p D).length) : (ibusDecode p D)[k] = ch[k] &&& p.ibusStdMask := by
  simp only [ibusDecode, ibusStandard_of_frame p.ibusStdMask hlen hD]
  rw [List.getElem_append_left (by simpa using hk), List.getElem_map]

theorem ibusDecode_compressed (p : Params) (D : IbusDecoder) (k : Fin 4)
    (hk : 14 + k.val < (ibusDecode p D).length) :
    (ibusDecode p D)[14 + k.val] = ibusCompressed p.ibusCompMap D k := by
  have hstandard : (ibusStandard p.ibusStdMask D).length = 14 := by simp [ibusStandard]
  simp only [ibusDecode]
  rw [List.getElem_append_right (by omega)]
  simp only [hstandard, Nat.add_sub_cancel_left]
  fin_cases k <;> rfl

end

/-- The buffer, the sum and the index of a decoder that has collected a whole frame. -/
theorem ibusCollected_frame (p : Params) {ch : List Half} (D : IbusDecoder) (hlen : ch.length = 14)
    (E : IbusDecoder) (hE : E = ibusCollected p (ibusFrame p ch) D) :
    E.idx = 32 ∧ E.acc = ibusSum p.ibusSeed (ibusBody p ch) ∧
    ∀ i, i < 32 → E.byte i = (ibusFrame p ch).getD i 0 := by
  subst hE
  have hframe := ibusFrame_length p hlen
  refine ⟨(ibusCollected_idx_eq_iff p D hframe.le).2 hframe,
    congrArg (ibusSum p.ibusSeed) (ibusFrame_take p hlen), fun i hi => ?_⟩
  exact ibusCollected_byte p D (by omega) hframe.le

/-- The 32 bytes of a frame, sent to an idle decoder, are published (R242, R243). -/
theorem execAll_ibusFrame (s : State) {ch : List Half} (hst : s.ibus.st = .idle)
    (hlen : ch.length = 14) (E : IbusDecoder)
    (hE : E = ibusCollected s.params (ibusFrame s.params ch) s.ibus) :
    execAll (rxsIbus (ibusFrame s.params ch)) s =
      .next ((s.setIbus (ibusPublish s.params s.ticks E)).setResp (respOk 3)) := by
  obtain ⟨hidx, hacc, hbyte⟩ := ibusCollected_frame s.params s.ibus hlen E hE
  obtain ⟨hlow, hhigh⟩ := ibusFrame_checksum s.params hlen
  have hvalid : ibusValid E = true := by
    rw [ibusValid_iff, hacc, hbyte 30 (by decide), hbyte 31 (by decide)]
    exact ⟨hlow, hhigh⟩
  obtain ⟨rest, hlenRest, hrest⟩ := ibusFrame_eq_cons s.params hlen
  rw [hrest] at hE ⊢
  rw [execAll_ibus_bytes s rest hst hlenRest.le E hE,
    ibusJudge_of_valid _ _ hidx hvalid, Received.resp_published, Received.published_decoder]

theorem ibusPublish_active (p : Params) (now : Word) (E : IbusDecoder) :
    (ibusPublish p now E).active =
      (E.bank (!E.act)).load (ibusDecode p E) ((ibusDecode p E).map (ibusClass p)) 0 :=
  publish_active now _ _ _ E

/-- The bank a publish shows holds the channels of the frame and their classes (R243). -/
theorem ibusPublish_active_at (p : Params) (now : Word) (E : IbusDecoder) {k : Nat}
    (hk : k < (ibusDecode p E).length) :
    (ibusPublish p now E).active.valueAt k = (ibusDecode p E)[k] ∧
    (ibusPublish p now E).active.classAt k = ibusClass p (ibusDecode p E)[k] := by
  rw [ibusPublish_active]
  exact Bank.load_at _ _ _ (ibusDecode_length p E).le hk

/-- Settles O46: the buffer holds the frame, which decodes to its words and their nibbles, and Publish
loads them into the bank it shows. -/
theorem ibusFrameRoundTrip : Obligations.IbusFrameRoundTrip := by
  intro s ch hst hlen
  obtain ⟨E, hE⟩ : ∃ E, E = ibusCollected s.params (ibusFrame s.params ch) s.ibus := ⟨_, rfl⟩
  obtain ⟨-, -, hbyte⟩ := ibusCollected_frame s.params s.ibus hlen E hE
  have hcount : (ibusDecode s.params E).length = 18 := ibusDecode_length s.params E
  refine ⟨_, execAll_ibusFrame s hst hlen E hE, fun k hk => ?_, fun hmap k hk => ?_, ?_⟩
  · have hk' : k < (ibusDecode s.params E).length := by omega
    rw [← ibusDecode_standard hlen hbyte hk hk']
    exact ibusPublish_active_at s.params s.ticks E hk'
  · obtain ⟨hvalue, -⟩ := ibusPublish_active_at s.params s.ticks E (k := 14 + k) (by omega)
    have hdecode := ibusDecode_compressed s.params E ⟨k, hk⟩ (by omega)
    rw [hmap, ibusCompressed_of_frame hlen hbyte] at hdecode
    exact hvalue.trans hdecode
  · rw [State.setIbus_ibus, ibusPublish_active, Bank.load_cnt, hcount, hE]
    exact ⟨rfl, rfl, rfl, rfl, rfl, rfl, rfl, rfl⟩

end Sys2Proof.Machine
end

section
/-! SUPPORT. The rejection of an IBus frame of which one of bytes 0 to 29 was changed (R250): the sum of
the other bytes does not make up for the change, and a broken header leaves too few bytes for a frame. -/

namespace Sys2Proof.Machine

/-! ### The sum of a changed sequence (R370) -/

/-- What is taken from the seed is taken from the sum. -/
theorem ibusSum_sub (seed x : Half) (bs : List Byte) :
    ibusSum (seed - x) bs = ibusSum seed bs - x := by
  induction bs generalizing seed with
  | nil => rfl
  | cons b bs ih =>
    show ibusSum (seed - x - b.setWidth 16) bs = ibusSum (seed - b.setWidth 16) bs - x
    rw [← ih, sub_right_comm]

/-- Exchanging one byte exchanges its place in the sum. -/
theorem ibusSum_set (seed : Half) {bs : List Byte} {i : Nat} (hi : i < bs.length) (b : Byte) :
    ibusSum seed (bs.set i b) + b.setWidth 16 =
      ibusSum seed bs + (bs.getD i 0).setWidth 16 := by
  induction bs generalizing seed i with
  | nil => exact absurd hi (Nat.not_lt_zero i)
  | cons c cs ih =>
    cases i with
    | zero =>
      show ibusSum (seed - b.setWidth 16) cs + b.setWidth 16 =
        ibusSum (seed - c.setWidth 16) cs + c.setWidth 16
      rw [ibusSum_sub, ibusSum_sub, sub_add_cancel, sub_add_cancel]
    | succ i => exact ih (sum16Step seed c) (Nat.lt_of_succ_lt_succ hi)

/-- Two sums that two different bytes make equal are a non-zero amount below 256 apart. -/
theorem exists_byte_difference {x y : Half} {b c : Byte} (hbc : b ≠ c)
    (h : x + b.setWidth 16 = y + c.setWidth 16) :
    ∃ d : Half, 0 < d ∧ d < 256 ∧ (x = y + d ∨ x = y - d) := by
  have hb : (b.setWidth 16 : Half).toNat = b.toNat := BitVec.toNat_setWidth_of_le (by decide)
  have hc : (c.setWidth 16 : Half).toNat = c.toNat := BitVec.toNat_setWidth_of_le (by decide)
  have hne : b.toNat ≠ c.toNat := fun e => hbc (BitVec.eq_of_toNat_eq e)
  rcases Nat.lt_or_gt_of_ne hne with hlt | hgt
  · exact ⟨c.setWidth 16 - b.setWidth 16, by bv_omega, by bv_omega, .inl (by bv_omega)⟩
  · exact ⟨b.setWidth 16 - c.setWidth 16, by bv_omega, by bv_omega, .inr (by bv_omega)⟩

/-- The change of the sum of frame bytes 0 to 29 (R250). -/
theorem ibusSum_take_set (seed : Half) {fr : List Byte} {i : Nat} {b : Byte} (hlen : 30 ≤ fr.length)
    (hi : i < 30) (hb : b ≠ fr.getD i 0) : ∃ d : Half, 0 < d ∧ d < 256 ∧
      (ibusSum seed ((fr.set i b).take 30) = ibusSum seed (fr.take 30) + d ∨
        ibusSum seed ((fr.set i b).take 30) = ibusSum seed (fr.take 30) - d) := by
  have hold : (fr.take 30).getD i 0 = fr.getD i 0 := by
    rw [List.getD_eq_getElem?_getD, List.getElem?_take_of_lt hi, List.getD_eq_getElem?_getD]
  rw [List.take_set]
  exact exists_byte_difference (hold ▸ hb) (ibusSum_set seed (by simp; omega) b)

theorem ibusSum_take_set_ne (seed : Half) {fr : List Byte} {i : Nat} {b : Byte}
    (hlen : 30 ≤ fr.length) (hi : i < 30) (hb : b ≠ fr.getD i 0) :
    ibusSum seed ((fr.set i b).take 30) ≠ ibusSum seed (fr.take 30) := by
  obtain ⟨d, hpos, -, h | h⟩ := ibusSum_take_set seed hlen hi hb
  · bv_omega
  · bv_omega

/-! ### A changed payload byte -/

/-- From byte 2 on the frame is collected whole, and its checksum is that of other bytes. -/
theorem execAll_ibus_changed_payload (s : State) {ch : List Half} {i : Nat} {b : Byte}
    (hst : s.ibus.st = .idle) (hlen : ch.length = 14) (hi2 : 2 ≤ i) (hi : i < 30)
    (hb : b ≠ (ibusFrame s.params ch).getD i 0) (E : IbusDecoder)
    (hE : E = ibusCollected s.params ((ibusFrame s.params ch).set i b) s.ibus) :
    execAll (rxsIbus ((ibusFrame s.params ch).set i b)) s =
      .next ((s.setIbus (checksumError ibusProtocol E)).setResp (respOk 0)) := by
  have hframe := ibusFrame_length s.params hlen
  have hchanged : ((ibusFrame s.params ch).set i b).length = 32 := by rw [List.length_set, hframe]
  have hidx : E.idx = 32 := hE ▸ (ibusCollected_idx_eq_iff s.params s.ibus hchanged.le).2 hchanged
  have hbyte : ∀ j, 30 ≤ j → j < 32 → E.byte j = (ibusFrame s.params ch).getD j 0 := by
    intro j hj30 hj
    rw [hE, ibusCollected_byte _ _ (by omega) hchanged.le, List.getD_eq_getElem?_getD,
      List.getElem?_set_ne (by omega), List.getD_eq_getElem?_getD]
  have hinvalid : ¬ ibusValid E = true := by
    rw [ibusValid_iff, hbyte 30 le_rfl (by decide), hbyte 31 (by decide) (by decide)]
    rintro ⟨hlow, hhigh⟩
    obtain ⟨hlow', hhigh'⟩ := ibusFrame_checksum s.params hlen
    refine ibusSum_take_set_ne s.params.ibusSeed (by omega) hi hb ?_
    have hacc : E.acc = ibusSum s.params.ibusSeed (((ibusFrame s.params ch).set i b).take 30) := by
      rw [hE]
      rfl
    rw [← hacc, ibusFrame_take s.params hlen, ← leHalf_lowByte_highByte E.acc, ← hlow, ← hhigh,
      hlow', hhigh', leHalf_lowByte_highByte]
  obtain ⟨rest, hlenRest, hrest⟩ := ibusFrame_eq_cons s.params hlen
  obtain ⟨j, rfl⟩ : ∃ j, i = j + 1 + 1 := ⟨i - 2, by omega⟩
  rw [hrest, List.set_cons_succ, List.set_cons_succ] at hE ⊢
  rw [execAll_ibus_bytes s _ hst (by rw [List.length_set, hlenRest]) E hE,
    ibusJudge_of_invalid _ _ hidx hinvalid, Received.resp_quiet, Received.quiet_decoder]

/-! ### A changed header byte -/

theorem Decoder.SameStore.trans {σ : Type} {n cap : Nat} {D E F : Decoder σ n cap}
    (h : D.SameStore E) (k : E.SameStore F) : D.SameStore F := by
  unfold Decoder.SameStore at *
  simp only [h, k, and_self]

/-- Too few bytes for a frame: each leaves the store as it was. -/
theorem ibusReceive_short (p : Params) (now : Word) (b : Byte) {D : IbusDecoder}
    (h : ibusFilled D < 31) : ∃ E, ibusReceive p now b D = .quiet E ∧ E.SameStore D ∧
      ibusFilled E ≤ ibusFilled D + 1 := by
  have hlast : D.st = .data → D.idx + 1 ≠ 32 := by
    intro hst
    rw [ibusFilled_of_data hst] at h
    bv_omega
  rcases ibusReceive_cases p now b D with
    ⟨-, e⟩ | ⟨hst, e⟩ | ⟨hst, -, e⟩ | ⟨hst, h32, -⟩ | ⟨hst, h32, -⟩
  · refine ⟨_, e, ibusHunt_sameStore p b D.clearGap, ?_⟩
    unfold ibusHunt
    split
    · rw [ibusFilled_of_hdr rfl]
      omega
    · exact Nat.le_succ _
  · refine ⟨_, e, ibusHeader_sameStore p b D.clearGap, ?_⟩
    rw [ibusFilled_of_hdr hst]
    unfold ibusHeader
    split
    · exact le_rfl
    · exact Nat.zero_le _
  · refine ⟨_, e, ibusStore_sameStore b D.clearGap, ?_⟩
    rw [ibusFilled_of_data hst, ibusFilled_of_data (D := ibusStore b D.clearGap) hst]
    show (D.idx + 1).toNat ≤ D.idx.toNat + 1
    bv_omega
  · exact absurd h32 (hlast hst)
  · exact absurd h32 (hlast hst)

theorem execAll_ibus_short (s : State) (bs : List Byte) (D : IbusDecoder)
    (h : ibusFilled D + bs.length < 32) : ∃ E,
      execAll (rxsIbus bs) ((s.setIbus D).setResp (respOk 0)) =
        .next ((s.setIbus E).setResp (respOk 0)) ∧ E.SameStore D := by
  induction bs generalizing D with
  | nil => exact ⟨D, rfl, .refl D⟩
  | cons b bs ih =>
    rw [List.length_cons] at h
    obtain ⟨U, hU, hstore, hfilled⟩ := ibusReceive_short s.params s.ticks b (D := D) (by omega)
    obtain ⟨E, hE, hstore'⟩ := ih U (by omega)
    refine ⟨E, ?_, hstore'.trans hstore⟩
    rw [← hE]
    show andThen (exec (.rxIbus b) _) (execAll (rxsIbus bs)) = _
    simp only [exec_rxIbus, andThen_next, State.setResp_params, State.setIbus_params,
      State.setResp_ticks, State.setIbus_ticks, State.setResp_ibus, State.setIbus_ibus, hU,
      Received.quiet_decoder, Received.resp_quiet]
    rfl

/-- Bytes that leave the decoder idle, and then too few for a frame: the store is kept throughout. -/
theorem execAll_ibus_idle_then_short (s : State) {bs cs : List Byte} {D : IbusDecoder}
    (hrun : execAll (rxsIbus bs) s = .next ((s.setIbus D).setResp (respOk 0)))
    (hidle : D.st = .idle) (hstore : D.SameStore s.ibus) (hlen : cs.length < 32) :
    ∃ E, execAll (rxsIbus (bs ++ cs)) s = .next ((s.setIbus E).setResp (respOk 0)) ∧
      E.SameStore s.ibus := by
  obtain ⟨E, hE, hkeep⟩ := execAll_ibus_short s cs D (by rw [ibusFilled_of_idle hidle]; omega)
  refine ⟨E, ?_, hkeep.trans hstore⟩
  rw [rxsIbus_append, execAll_append, hrun, andThen_next, hE]

/-- A byte that is not the first header byte does not start a frame. -/
theorem execAll_ibus_not_hdr0 (s : State) {b : Byte} (hst : s.ibus.st = .idle)
    (hb : b ≠ s.params.ibusHdr0) :
    execAll (rxsIbus [b]) s = .next ((s.setIbus s.ibus.clearGap).setResp (respOk 0)) := by
  rw [rxsIbus_singleton, execAll_singleton, exec_rxIbus, ibusReceive_of_idle _ _ _ hst,
    Received.resp_quiet, Received.quiet_decoder, ibusHunt, if_neg hb]

/-- A byte that is not the second header byte drops the frame that was started. -/
theorem execAll_ibus_not_hdr1 (s : State) {b : Byte} (hst : s.ibus.st = .idle)
    (hb : b ≠ s.params.ibusHdr1) : ∃ D,
      execAll (rxsIbus [s.params.ibusHdr0, b]) s = .next ((s.setIbus D).setResp (respOk 0)) ∧
      D.SameStore s.ibus ∧ D.st = .idle ∧ D.lastErr = .framing ∧ D.frmErr = s.ibus.frmErr + 1 := by
  refine ⟨_, execAll_ibus_two s b hst, ?_⟩
  rw [ibusHunt, if_pos rfl, ibusHeader, if_neg hb]
  exact ⟨.refl s.ibus, rfl, rfl, rfl⟩

/-- Settles O50: a changed header byte leaves the decoder idle with too few bytes to come, any other
change is summed and not made up for. -/
theorem ibusRejectsOneChangedByte : Obligations.IbusRejectsOneChangedByte := by
  rintro s ch _ i b hst hlen rfl hi hb
  have hframe := ibusFrame_length s.params hlen
  refine ⟨ibusSum_take_set _ (by omega) hi hb, ?_⟩
  obtain ⟨rest, hlenRest, hrest⟩ := ibusFrame_eq_cons s.params hlen
  match i with
  | 0 =>
    rw [hrest] at hb ⊢
    have hrun := execAll_ibus_not_hdr0 s hst hb
    obtain ⟨E, hE, hstore⟩ := execAll_ibus_idle_then_short s (cs := s.params.ibusHdr1 :: rest) hrun
      hst (.refl s.ibus) (by rw [List.length_cons, hlenRest]; decide)
    exact ⟨⟨E, hE, hstore, nofun⟩, fun _ => ⟨_, hrun, hst⟩, nofun⟩
  | 1 =>
    rw [hrest] at hb ⊢
    obtain ⟨D, hrun, hstoreD, hidle, herr, hcount⟩ := execAll_ibus_not_hdr1 s hst hb
    obtain ⟨E, hE, hstore⟩ := execAll_ibus_idle_then_short s (cs := rest) hrun hidle hstoreD
      (by rw [hlenRest]; decide)
    exact ⟨⟨E, hE, hstore, by omega⟩, nofun, fun _ => ⟨_, hrun, hidle, herr, hcount⟩⟩
  | i + 2 =>
    exact ⟨⟨_, execAll_ibus_changed_payload s hst hlen (by omega) hi hb _ rfl, .refl s.ibus,
      fun _ => ⟨rfl, rfl, rfl⟩⟩, by omega, by omega⟩

end Sys2Proof.Machine
end

section
/-! SUPPORT. What `RX.CRSF` does (R284), what the mirror shows of a frame (R287, R288), and a whole CRSF
frame from `Sync`: how its bytes are collected and judged. -/

namespace Sys2Proof.Machine

/-! ### The mirror -/

theorem isExtended_iff {p : Params} {type len : Byte} :
    isExtended p type len = true ↔ p.crsfExtMin.toNat ≤ type.toNat ∧ 4 ≤ len.toNat := by
  simp [isExtended, BitVec.le_def]

theorem Mirror.byte_past (m : Mirror) {i : Nat} (hi : 64 ≤ i) : m.byte i = 0 := by
  simp [Mirror.byte, Nat.not_lt_of_le hi]

/-- Settles O26: the copy byte by byte, and the description by whether the frame is extended, a payload
of two bytes being a length of four. -/
theorem mirrorCopiesTheFrame : Obligations.MirrorCopiesTheFrame := by
  rintro p D L rfl hmin hmax
  have hext : (p.crsfExtMin.toNat ≤ (D.byte 2).toNat ∧ 2 ≤ (D.byte 1).toNat - 2) ↔
      isExtended p (D.byte 2) (D.byte 1) = true := by
    rw [isExtended_iff]
    omega
  refine ⟨fun i hi => ?_, fun i hi => ?_, rfl, mirrorOf_len p hmax, rfl, fun h => ?_, fun h => ?_⟩
  · rw [mirrorOf_byte p D (by omega), if_pos hi]
  · by_cases hin : i < 64
    · rw [mirrorOf_byte p D hin, if_neg (by omega)]
    · exact (mirrorOf p D).byte_past (Nat.le_of_not_lt hin)
  · have hyes := hext.1 h
    exact ⟨hyes, if_pos hyes, if_pos hyes⟩
  · have hno := mt hext.2 h
    exact ⟨Bool.eq_false_of_not_eq_true hno, if_neg hno, if_neg hno⟩

/-! ### The judgement of a stored byte -/

/-- The decoder back in `Sync` after a CRC-valid frame (R284). -/
def crsfDone (D : CrsfDecoder) : CrsfDecoder := { D with st := .sync, idx := 0, exp := 0 }

section
variable {p : Params} {now : Word} {b : Byte} {D : CrsfDecoder} {m : Mirror}

/-- A byte before the `L`-th is not judged. -/
theorem crsfJudge_of_ne (hidx : D.idx ≠ D.exp) : crsfJudge p now b D m = .quiet ⟨D, m⟩ :=
  if_neg hidx

theorem crsfJudge_of_crc_ne (hidx : D.idx = D.exp) (hcrc : lowByte D.acc ≠ b) :
    crsfJudge p now b D m = .quiet ⟨checksumError crsfProtocol D, m⟩ :=
  (if_pos hidx).trans (if_neg hcrc)

/-- A CRC-valid frame is mirrored, and then delivered by its type and length. -/
theorem crsfJudge_of_crc_eq (hidx : D.idx = D.exp) (hcrc : lowByte D.acc = b) :
    crsfJudge p now b D m =
      { decoder := ⟨(crsfDeliver p now D.exp (crsfDone D)).decoder, mirrorOf p D⟩
        frame := (crsfDeliver p now D.exp (crsfDone D)).frame
        pub := (crsfDeliver p now D.exp (crsfDone D)).pub } :=
  (if_pos hidx).trans (if_pos hcrc)

theorem crsfJudge_of_rc (hidx : D.idx = D.exp) (hcrc : lowByte D.acc = b)
    (htype : D.byte 2 = p.crsfTypeRc) (hlen : D.exp = 24) :
    crsfJudge p now b D m = .published ⟨crsfPublish p now (crsfDone D), mirrorOf p D⟩ := by
  have hdeliver : crsfDeliver p now D.exp (crsfDone D) =
      .published (crsfPublish p now (crsfDone D)) :=
    (if_pos htype).trans (if_pos hlen)
  rw [crsfJudge_of_crc_eq hidx hcrc, hdeliver]
  rfl

theorem crsfJudge_of_rc_length_ne (hidx : D.idx = D.exp) (hcrc : lowByte D.acc = b)
    (htype : D.byte 2 = p.crsfTypeRc) (hlen : D.exp ≠ 24) :
    crsfJudge p now b D m = .frameOnly ⟨framingError crsfProtocol (crsfDone D), mirrorOf p D⟩ := by
  have hdeliver : crsfDeliver p now D.exp (crsfDone D) =
      .frameOnly (framingError crsfProtocol (crsfDone D)) :=
    (if_pos htype).trans (if_neg hlen)
  rw [crsfJudge_of_crc_eq hidx hcrc, hdeliver]
  rfl

theorem crsfJudge_of_other (hidx : D.idx = D.exp) (hcrc : lowByte D.acc = b)
    (htype : D.byte 2 ≠ p.crsfTypeRc) :
    crsfJudge p now b D m = .frameOnly ⟨crsfDone D, mirrorOf p D⟩ := by
  have hdeliver : crsfDeliver p now D.exp (crsfDone D) = .frameOnly (crsfDone D) := if_neg htype
  rw [crsfJudge_of_crc_eq hidx hcrc, hdeliver]
  rfl

end

/-- Publish neither reads nor writes the FSM state and the counts (R76). -/
theorem publish_crsfDone (now : Word) (vals : List Half) (cls : List ChanClass) (fl : BitVec 4)
    (D : CrsfDecoder) :
    publish now vals cls fl (crsfDone D) = crsfDone (publish now vals cls fl D) := by
  unfold publish Decoder.putBank crsfDone
  dsimp only
  split <;> rfl

/-- Settles O15: each FSM state by the equation of the receiver in it, and in `Data` each case of the
judgement of the stored byte. -/
theorem rxCrsfResult : Obligations.RxCrsfResult := by
  intro b s
  refine ⟨_, _, _, exec_rxCrsf b s, fun hst => ?_, fun hst => ?_, fun hst => ?_⟩
  · rw [crsfReceive_of_sync _ _ _ _ hst, Received.resp_quiet]
    exact ⟨rfl, rfl, fun hb => if_pos hb, fun hb => if_neg hb⟩
  · rw [crsfReceive_of_len _ _ _ _ hst, Received.resp_quiet]
    exact ⟨rfl, rfl, fun hb => if_pos hb, fun hb => if_neg hb⟩
  · rw [crsfReceive_of_data _ _ _ _ hst]
    refine ⟨crsfStore s.params b s.crsf.clearGap, rfl, fun hidx => ?_, fun hidx hcrc => ?_,
      fun hidx hcrc => ⟨?_, fun htype hlen => ?_, fun htype hlen => ?_, fun htype => ?_⟩⟩
    · rw [crsfJudge_of_ne hidx, Received.resp_quiet]
      exact ⟨rfl, rfl, rfl⟩
    · rw [crsfJudge_of_crc_ne hidx hcrc, Received.resp_quiet]
      exact ⟨rfl, rfl, rfl⟩
    · rw [crsfJudge_of_crc_eq hidx hcrc]
      rfl
    · rw [crsfJudge_of_rc hidx hcrc htype hlen, Received.resp_published, Received.published_decoder,
        crsfPublish, publish_crsfDone]
      exact ⟨rfl, rfl⟩
    · rw [crsfJudge_of_rc_length_ne hidx hcrc htype hlen, Received.resp_frameOnly]
      exact ⟨rfl, rfl⟩
    · rw [crsfJudge_of_other hidx hcrc htype, Received.resp_frameOnly]
      exact ⟨rfl, rfl⟩

/-! ### The bytes of a frame from `Sync` -/

theorem rxsCrsf_append (bs cs : List Byte) : rxsCrsf (bs ++ cs) = rxsCrsf bs ++ rxsCrsf cs :=
  List.map_append

theorem rxsCrsf_singleton (b : Byte) : rxsCrsf [b] = [.rxCrsf b] := rfl

/-- A decoder `D` in `Sync` after the sync byte, the length byte `len` and the bytes `bs`, all of them
stored and none judged. -/
def crsfCollected (p : Params) (len : Byte) (bs : List Byte) (D : CrsfDecoder) : CrsfDecoder :=
  { D with
    gap := 0
    buf := storeFrom D.buf 0 (p.crsfSync :: len :: bs)
    acc := (crc8 p.crc8Poly p.crc8Init (bs.take (len.toNat - 1))).setWidth 16
    exp := len
    idx := BitVec.ofNat 8 bs.length
    st := .data }

theorem crsfCollected_byte (p : Params) (len : Byte) {bs : List Byte} (D : CrsfDecoder) {i : Nat}
    (hi : i < bs.length + 2) (hlen : bs.length ≤ 62) :
    (crsfCollected p len bs D).byte i = (p.crsfSync :: len :: bs).getD i 0 := by
  have hin : 0 ≤ i ∧ i < 0 + (p.crsfSync :: len :: bs).length ∧ i < 64 := by
    simp only [List.length_cons]
    omega
  rw [Decoder.byte, crsfCollected, storeFrom_getElem?, if_pos hin]
  rfl

theorem crsfCollected_idx_eq_iff (p : Params) {len : Byte} {bs : List Byte} (D : CrsfDecoder)
    (hle : bs.length ≤ len.toNat) :
    (crsfCollected p len bs D).idx = (crsfCollected p len bs D).exp ↔ bs.length = len.toNat := by
  have hlt := len.isLt
  rw [← BitVec.toNat_inj, crsfCollected, toNat_ofNat_of_lt_256 (by omega)]

/-- One more byte stored; the last one of a frame, the CRC byte, is not fed to the CRC (R283). -/
theorem crsfStore_collected (p : Params) {len : Byte} {bs : List Byte} (b : Byte) (D : CrsfDecoder)
    (hroom : bs.length < len.toNat) : crsfStore p b (crsfCollected p len bs D).clearGap =
      crsfCollected p len (bs ++ [b]) D := by
  have hlt := len.isLt
  have hidx := toNat_ofNat_of_lt_256 (n := bs.length) (by omega)
  have hsucc : BitVec.ofNat 8 bs.length + 1 = BitVec.ofNat 8 (bs ++ [b]).length := by
    rw [List.length_append, BitVec.ofNat_add]
    rfl
  have hbuf : storeFrom D.buf 0 (p.crsfSync :: len :: (bs ++ [b])) =
      (storeFrom D.buf 0 (p.crsfSync :: len :: bs)).setIfInBounds (2 + bs.length) b := by
    rw [← List.cons_append, ← List.cons_append, storeFrom_append, Nat.zero_add, Nat.add_comm 2]
    rfl
  have hacc : (if bs.length + 1 < len.toNat then
      (crc8Step p.crc8Poly (crc8 p.crc8Poly p.crc8Init (bs.take (len.toNat - 1))) b).setWidth 16
      else (crc8 p.crc8Poly p.crc8Init (bs.take (len.toNat - 1))).setWidth 16 : Half) =
      (crc8 p.crc8Poly p.crc8Init ((bs ++ [b]).take (len.toNat - 1))).setWidth 16 := by
    split
    · rw [List.take_of_length_le (by omega), List.take_of_length_le (by simp; omega), crc8_snoc]
    · rw [List.take_append_of_le_length (by omega)]
  simp only [crsfStore, crsfCollected, Decoder.clearGap, Decoder.putByte, hidx, hsucc, hbuf,
    lowByte_setWidth, hacc]

/-- The state `s` after its CRSF decoder and mirror received a byte with the outcome `r` (R284). -/
def State.afterCrsf (s : State) (r : Received CrsfUnit) : State :=
  ((s.setCrsf r.decoder.decoder).setMirror r.decoder.mirror).setResp r.resp

theorem exec_rxCrsf_eq_afterCrsf (b : Byte) (s : State) : exec (.rxCrsf b) s =
    .next (s.afterCrsf (crsfReceive s.params s.ticks b s.crsf s.mirror)) := rfl

@[simp] theorem State.afterCrsf_params (s : State) (r : Received CrsfUnit) :
    (s.afterCrsf r).params = s.params := rfl

@[simp] theorem State.afterCrsf_ticks (s : State) (r : Received CrsfUnit) :
    (s.afterCrsf r).ticks = s.ticks := rfl

@[simp] theorem State.afterCrsf_crsf (s : State) (r : Received CrsfUnit) :
    (s.afterCrsf r).crsf = r.decoder.decoder := rfl

@[simp] theorem State.afterCrsf_mirror (s : State) (r : Received CrsfUnit) :
    (s.afterCrsf r).mirror = r.decoder.mirror := rfl

@[simp] theorem State.afterCrsf_afterCrsf (s : State) (r q : Received CrsfUnit) :
    (s.afterCrsf r).afterCrsf q = s.afterCrsf q := rfl

section
variable (s : State) {len : Byte}

/-- The sync byte and a legal length byte (R284). -/
theorem execAll_crsf_header (hst : s.crsf.st = .sync)
    (hlegal : s.params.crsfLenMin ≤ len ∧ len ≤ s.params.crsfLenMax) :
    execAll (rxsCrsf [s.params.crsfSync, len]) s =
      .next (s.afterCrsf (.quiet ⟨crsfCollected s.params len [] s.crsf, s.mirror⟩)) := by
  have hlen : (crsfHunt s.params s.params.crsfSync s.crsf.clearGap).st = .len := by
    rw [crsfHunt, if_pos rfl]
  simp only [rxsCrsf, List.map_cons, List.map_nil, execAll_cons, execAll_nil, andThen_next,
    exec_rxCrsf_eq_afterCrsf, crsfReceive_of_sync _ _ _ _ hst, Received.quiet_decoder,
    crsfReceive_of_len _ _ _ _ hlen, State.afterCrsf_params, State.afterCrsf_ticks,
    State.afterCrsf_crsf, State.afterCrsf_mirror, State.afterCrsf_afterCrsf]
  rw [crsfHunt, if_pos rfl, crsfLength, if_pos hlegal, crsfCollected, List.take_nil]
  rfl

/-- One more byte is stored and judged. -/
theorem exec_rxCrsf_collected (bs : List Byte) (b : Byte) (hroom : bs.length < len.toNat) :
    exec (.rxCrsf b) (s.afterCrsf (.quiet ⟨crsfCollected s.params len bs s.crsf, s.mirror⟩)) =
      .next (s.afterCrsf (crsfJudge s.params s.ticks b
        (crsfCollected s.params len (bs ++ [b]) s.crsf) s.mirror)) := by
  simp only [exec_rxCrsf_eq_afterCrsf, State.afterCrsf_params, State.afterCrsf_ticks,
    State.afterCrsf_crsf, State.afterCrsf_mirror, State.afterCrsf_afterCrsf, Received.quiet_decoder,
    crsfReceive_of_data _ _ _ _ (rfl : (crsfCollected _ _ _ _).st = .data),
    crsfStore_collected s.params b s.crsf hroom]

/-- Fewer bytes than the length byte announces are collected, whatever they are. -/
theorem execAll_crsf_partial (bs : List Byte) (hst : s.crsf.st = .sync)
    (hlegal : s.params.crsfLenMin ≤ len ∧ len ≤ s.params.crsfLenMax)
    (hlen : bs.length < len.toNat) :
    execAll (rxsCrsf (s.params.crsfSync :: len :: bs)) s =
      .next (s.afterCrsf (.quiet ⟨crsfCollected s.params len bs s.crsf, s.mirror⟩)) := by
  induction bs using List.reverseRecOn with
  | nil => exact execAll_crsf_header s hst hlegal
  | append_singleton bs b ih =>
    have hroom : bs.length < len.toNat := by
      rw [List.length_append] at hlen
      omega
    have hquiet := mt (crsfCollected_idx_eq_iff s.params s.crsf hlen.le).1 hlen.ne
    rw [← List.cons_append, ← List.cons_append, rxsCrsf_append, execAll_append, ih hroom,
      andThen_next, rxsCrsf_singleton, execAll_singleton, exec_rxCrsf_collected s bs b hroom,
      crsfJudge_of_ne hquiet]

/-- A whole frame of legal length, whatever its bytes: its last byte `c` is judged. -/
theorem execAll_crsf_whole (bs : List Byte) (c : Byte) (hst : s.crsf.st = .sync)
    (hlegal : s.params.crsfLenMin ≤ len ∧ len ≤ s.params.crsfLenMax)
    (hlen : bs.length + 1 = len.toNat) :
    execAll (rxsCrsf (s.params.crsfSync :: len :: (bs ++ [c]))) s =
      .next (s.afterCrsf (crsfJudge s.params s.ticks c
        (crsfCollected s.params len (bs ++ [c]) s.crsf) s.mirror)) := by
  rw [← List.cons_append, ← List.cons_append, rxsCrsf_append, execAll_append,
    execAll_crsf_partial s bs hst hlegal (by omega), andThen_next, rxsCrsf_singleton,
    execAll_singleton, exec_rxCrsf_collected s bs c (by omega)]

end

/-- The last byte of a whole frame is the `L`-th, and the CRC it is compared with is that of the type
and the payload. -/
theorem crsfCollected_whole (p : Params) {len : Byte} {bs : List Byte} (c : Byte) (D : CrsfDecoder)
    (hlen : bs.length + 1 = len.toNat) (E : CrsfDecoder)
    (hE : E = crsfCollected p len (bs ++ [c]) D) :
    E.idx = E.exp ∧ E.exp = len ∧ lowByte E.acc = crc8 p.crc8Poly p.crc8Init bs := by
  subst hE
  have hcount : (bs ++ [c]).length = len.toNat := by simpa using hlen
  refine ⟨(crsfCollected_idx_eq_iff p D hcount.le).2 hcount, rfl, ?_⟩
  have htake : (bs ++ [c]).take (len.toNat - 1) = bs := List.take_left' (by omega)
  rw [crsfCollected, lowByte_setWidth, htake]

/-! ### The frame of R111 -/

/-- A frame is its sync byte, its length byte, the bytes its CRC covers, and the CRC. -/
theorem crsfFrame_eq (p : Params) (type : Byte) (payload : List Byte) :
    crsfFrame p type payload = p.crsfSync :: BitVec.ofNat 8 (payload.length + 2) ::
      ((type :: payload) ++ [crc8 p.crc8Poly p.crc8Init (type :: payload)]) := rfl

theorem crsfFrame_length (p : Params) (type : Byte) (payload : List Byte) :
    (crsfFrame p type payload).length = payload.length + 4 := by
  simp [crsfFrame]

/-- A payload of legal length gives a legal length byte. -/
theorem crsfLen_legal {p : Params} {n : Nat} (hmin : p.crsfLenMin.toNat ≤ n)
    (hmax : n ≤ p.crsfLenMax.toNat) : (BitVec.ofNat 8 n).toNat = n ∧
      p.crsfLenMin ≤ BitVec.ofNat 8 n ∧ BitVec.ofNat 8 n ≤ p.crsfLenMax := by
  have hlt := p.crsfLenMax.isLt
  have hn := toNat_ofNat_of_lt_256 (n := n) (by omega)
  rw [BitVec.le_def, BitVec.le_def, hn]
  exact ⟨rfl, hmin, hmax⟩

/-- A decoder that has collected the frame of `type` and `payload` and not judged it. -/
def crsfHolding (p : Params) (type : Byte) (payload : List Byte) (D : CrsfDecoder) : CrsfDecoder :=
  crsfCollected p (BitVec.ofNat 8 (payload.length + 2))
    ((type :: payload) ++ [crc8 p.crc8Poly p.crc8Init (type :: payload)]) D

section
variable (p : Params) (type : Byte) {payload : List Byte} (D : CrsfDecoder)

theorem crsfHolding_byte (hlen : payload.length ≤ 60) {i : Nat} (hi : i < payload.length + 4) :
    (crsfHolding p type payload D).byte i = (crsfFrame p type payload).getD i 0 :=
  crsfCollected_byte p _ D (by simp; omega) (by simp; omega)

/-- The payload byte `i`. -/
theorem crsfFrame_payload (i : Nat) (hi : i < payload.length) :
    (crsfFrame p type payload).getD (3 + i) 0 = payload.getD i 0 := by
  rw [crsfFrame_eq, Nat.add_comm 3]
  exact List.getD_append payload _ 0 i hi

/-- The mirror of a frame shows the frame, and describes it by its type, its length and, if it is
extended, its first two payload bytes (R287, R288). -/
theorem mirrorOf_crsfHolding (hlen : payload.length ≤ 60) (m : Mirror)
    (hm : m = mirrorOf p (crsfHolding p type payload D)) :
    (∀ i, m.byte i = (crsfFrame p type payload).getD i 0) ∧
    m.present = true ∧ m.type = type ∧ m.len.toNat = payload.length + 2 ∧
    (m.ext = true ↔ p.crsfExtMin ≤ type ∧ 2 ≤ payload.length) ∧
    (m.ext = true → m.dest = payload.getD 0 0 ∧ m.orig = payload.getD 1 0) ∧
    (m.ext = false → m.dest = 0 ∧ m.orig = 0) := by
  subst hm
  have hbyte {i : Nat} (hi : i < payload.length + 4) := crsfHolding_byte p type D hlen hi
  have hcount : ((crsfHolding p type payload D).byte 1).toNat = payload.length + 2 := by
    rw [hbyte (by omega)]
    exact toNat_ofNat_of_lt_256 (by omega)
  have htype : (crsfHolding p type payload D).byte 2 = type := hbyte (by omega)
  obtain ⟨hcopy, hzero, hmtype, hmlen, hpresent, hext, hplain⟩ :=
    mirrorCopiesTheFrame p (crsfHolding p type payload D) _ hcount.symm (by omega) (by omega)
  rw [htype, ← BitVec.le_def, Nat.add_sub_cancel] at hext hplain
  refine ⟨fun i => ?_, hpresent, hmtype.trans htype, hmlen, ?_⟩
  · by_cases hi : i < payload.length + 4
    · rw [hcopy i (by omega), hbyte hi]
    · rw [hzero i (by omega), List.getD_eq_default _ _ (by rw [crsfFrame_length]; omega)]
  · by_cases hyes : p.crsfExtMin ≤ type ∧ 2 ≤ payload.length
    · obtain ⟨htrue, hdest, horig⟩ := hext hyes
      refine ⟨iff_of_true htrue hyes, fun _ => ?_, fun hfalse => absurd htrue (by simp [hfalse])⟩
      rw [hdest, horig, hbyte (by omega), hbyte (by omega)]
      exact ⟨crsfFrame_payload p type 0 (by omega), crsfFrame_payload p type 1 (by omega)⟩
    · obtain ⟨hfalse, hnone⟩ := hplain hyes
      exact ⟨iff_of_false (by simp [hfalse]) hyes, fun htrue => absurd htrue (by simp [hfalse]),
        fun _ => hnone⟩

end

/-- A frame of legal length, sent to a decoder in `Sync`: its last byte is the CRC it is judged by. -/
theorem execAll_crsfFrame (s : State) (type : Byte) {payload : List Byte} (hst : s.crsf.st = .sync)
    (hmin : s.params.crsfLenMin.toNat ≤ payload.length + 2)
    (hmax : payload.length + 2 ≤ s.params.crsfLenMax.toNat) (E : CrsfDecoder)
    (hE : E = crsfHolding s.params type payload s.crsf) :
    execAll (rxsCrsf (crsfFrame s.params type payload)) s =
      .next (s.afterCrsf (crsfJudge s.params s.ticks (lowByte E.acc) E s.mirror)) ∧
    E.idx = E.exp ∧ E.exp.toNat = payload.length + 2 := by
  obtain ⟨hlen, hlegal⟩ := crsfLen_legal hmin hmax
  have hbody : (type :: payload).length + 1 = (BitVec.ofNat 8 (payload.length + 2)).toNat :=
    hlen.symm
  obtain ⟨hidx, hexp, hcrc⟩ := crsfCollected_whole s.params _ s.crsf hbody E hE
  refine ⟨?_, hidx, (congrArg BitVec.toNat hexp).trans hlen⟩
  rw [hcrc, hE]
  exact execAll_crsf_whole s _ _ hst hlegal hbody

/-- Settles O48: the last byte mirrors the frame and returns to `Sync`. -/
theorem crsfOtherFramesAreMirrored : Obligations.CrsfOtherFramesAreMirrored := by
  intro s type payload hp hst htype hmin hmax
  obtain ⟨-, hmax62, -, -⟩ := wellFormed_bounds hp
  have hshort : payload.length ≤ 60 := by omega
  obtain ⟨hrun, hidx, -⟩ := execAll_crsfFrame s type hst hmin hmax _ rfl
  have htype2 : (crsfHolding s.params type payload s.crsf).byte 2 = type :=
    crsfHolding_byte s.params type s.crsf hshort (by omega)
  rw [crsfJudge_of_other hidx rfl (by rwa [htype2]), State.afterCrsf, Received.resp_frameOnly]
    at hrun
  exact ⟨_, _, hrun, .refl s.crsf, rfl, rfl, rfl, rfl,
    mirrorOf_crsfHolding s.params type s.crsf hshort _ rfl⟩

/-- The channels of a frame whose payload was packed from them (R285). -/
theorem crsfHolding_decode (p : Params) (type : Byte) {ch : List Half} (D : CrsfDecoder)
    (hlen : ch.length = 16) (hch : ∀ c ∈ ch, c.toNat < 2048) :
    crsfDecode (crsfHolding p type (pack11 ch) D) = ch := by
  have hpack := pack11_length ch
  have hbytes : (crsfHolding p type (pack11 ch) D).bytes 3 22 = pack11 ch := by
    refine List.ext_getElem (by simp) fun i hi hi' => ?_
    simp only [Decoder.bytes, List.getElem_map, List.getElem_range]
    rw [crsfHolding_byte p type D (by omega) (by omega), crsfFrame_payload p type i hi',
      List.getD_eq_getElem]
  rw [crsfDecode, hbytes, unpack11_pack11 hlen hch]

/-- Settles O47: the buffer holds the payload, which unpacks to the channels it was packed from, and
Publish loads them into the bank it shows. -/
theorem crsfRcFrameRoundTrip : Obligations.CrsfRcFrameRoundTrip := by
  intro s ch hst hlen hch hmin hmax
  have hpack := pack11_length ch
  have hshort : (pack11 ch).length ≤ 60 := by omega
  obtain ⟨E, hE⟩ : ∃ E, E = crsfHolding s.params s.params.crsfTypeRc (pack11 ch) s.crsf := ⟨_, rfl⟩
  obtain ⟨hrun, hidx, hexp⟩ :=
    execAll_crsfFrame s s.params.crsfTypeRc hst (by omega) (by omega) E hE
  have htype : E.byte 2 = s.params.crsfTypeRc := by
    rw [hE, crsfHolding_byte _ _ _ hshort (by omega)]
    rfl
  have hexp24 : E.exp = 24 := BitVec.eq_of_toNat_eq (by rw [hexp, hpack]; rfl)
  rw [crsfJudge_of_rc hidx rfl htype hexp24, State.afterCrsf, Received.resp_published] at hrun
  have hactive : (crsfPublish s.params s.ticks (crsfDone E)).active =
      (E.bank (!E.act)).load ch (ch.map (crsfClass s.params)) 0 := by
    have hdecode : crsfDecode (crsfDone E) = ch :=
      hE ▸ crsfHolding_decode s.params _ s.crsf hlen hch
    rw [crsfPublish, hdecode]
    exact publish_active s.ticks _ _ _ (crsfDone E)
  obtain ⟨hcopy, hpresent, hmtype, hmlen, -⟩ :=
    mirrorOf_crsfHolding s.params s.params.crsfTypeRc s.crsf hshort (mirrorOf s.params E) (hE ▸ rfl)
  have hlen24 : (mirrorOf s.params E).len = 24 := BitVec.eq_of_toNat_eq (by rw [hmlen, hpack]; rfl)
  refine ⟨crsfPublish s.params s.ticks (crsfDone E), mirrorOf s.params E, hrun, ?_⟩
  rw [hactive]
  refine ⟨fun k hk => Bank.load_at _ _ _ (by omega) hk, ?_, rfl, ?_, rfl, rfl, rfl, rfl, ?_,
    hpresent, hmtype, hlen24, hcopy⟩
  · rw [Bank.load_cnt, hlen]
    rfl
  · rw [crsfPublish, publish_st]
    rfl
  · rw [hE]
    rfl

end Sys2Proof.Machine
end

section
/-! SUPPORT. The rejection of a CRSF frame of which a type, payload or CRC byte was changed (R291): for
an odd polynomial each shift of the CRC-8 is injective, so two sequences that differ in one byte have
different CRCs. -/

namespace Sys2Proof.Machine

/-! ### A checksum that loses nothing -/

/-- One shift of a CRC register can be undone if the polynomial is odd: bit 0 tells whether the
polynomial was fed back. -/
theorem crcShift_injective {w : Nat} {poly : BitVec w} (hodd : poly.getLsbD 0 = true) :
    Function.Injective fun c : BitVec w => if c.msb then (c <<< 1) ^^^ poly else c <<< 1 := by
  have hbit (c : BitVec w) :
      (if c.msb then (c <<< 1) ^^^ poly else c <<< 1).getLsbD 0 = c.msb := by
    cases hc : c.msb <;> simp [hodd]
  intro c d hcd
  have hmsb : c.msb = d.msb := by
    rw [← hbit c, ← hbit d]
    exact congrArg (BitVec.getLsbD · 0) hcd
  have hshift : c <<< 1 = d <<< 1 := by
    simp only [hmsb] at hcd
    split at hcd
    · exact (BitVec.xor_left_inj poly).1 hcd
    · exact hcd
  apply BitVec.eq_of_getLsbD_eq
  intro i hi
  by_cases hlast : i + 1 < w
  · simpa [hlast, hi] using congrArg (BitVec.getLsbD · (i + 1)) hshift
  · obtain rfl : i = w - 1 := by omega
    rwa [BitVec.msb_eq_getLsbD_last, BitVec.msb_eq_getLsbD_last] at hmsb

/-- A running checksum whose step loses neither the register nor the byte tells a sequence from the
same with one byte changed. -/
theorem foldl_set_ne {α β : Type} {step : α → β → α} (hreg : ∀ b, Function.Injective (step · b))
    (hbyte : ∀ a, Function.Injective (step a)) (a : α) {bs : List β} {i : Nat} (hi : i < bs.length)
    {b : β} (hb : b ≠ bs[i]) : (bs.set i b).foldl step a ≠ bs.foldl step a := by
  have hfold (cs : List β) : Function.Injective fun a => cs.foldl step a := by
    induction cs with
    | nil => exact Function.injective_id
    | cons c cs ih => exact ih.comp (hreg c)
  induction bs generalizing a i with
  | nil => exact absurd hi (Nat.not_lt_zero i)
  | cons c cs ih =>
    cases i with
    | zero => exact fun h => hb (hbyte a (hfold cs h))
    | succ i => exact ih (step a c) (Nat.lt_of_succ_lt_succ hi) hb

section
variable {poly : Byte} (hodd : poly.getLsbD 0 = true)
include hodd

theorem repeat_crc8Shift_injective (n : Nat) :
    Function.Injective (Nat.repeat (crc8Shift poly) n) := by
  induction n with
  | zero => exact Function.injective_id
  | succ n ih => exact (crcShift_injective hodd).comp ih

theorem crc8Step_injective_register (b : Byte) : Function.Injective (crc8Step poly · b) :=
  fun _ _ h => (BitVec.xor_left_inj b).1 (repeat_crc8Shift_injective hodd 8 h)

theorem crc8Step_injective_byte (c : Byte) : Function.Injective (crc8Step poly c) :=
  fun _ _ h => (BitVec.xor_right_inj c).1 (repeat_crc8Shift_injective hodd 8 h)

theorem crc8_set_ne (init : Byte) {bs : List Byte} {i : Nat} (hi : i < bs.length) {b : Byte}
    (hb : b ≠ bs[i]) : crc8 poly init (bs.set i b) ≠ crc8 poly init bs :=
  foldl_set_ne (crc8Step_injective_register hodd) (crc8Step_injective_byte hodd) init hi hb

end

/-! ### The changed frame -/

/-- A frame with one type, payload or CRC byte changed: as many bytes, and a last byte that is not the
CRC-8 of those before it. -/
theorem crsfFrame_set (p : Params) (type : Byte) (payload : List Byte) {i : Nat} {b : Byte}
    (hodd : p.crc8Poly.getLsbD 0 = true) (hi2 : 2 ≤ i) (hi : i < payload.length + 4)
    (hb : b ≠ (crsfFrame p type payload).getD i 0) : ∃ body c,
      (crsfFrame p type payload).set i b =
        p.crsfSync :: BitVec.ofNat 8 (payload.length + 2) :: (body ++ [c]) ∧
      body.length = payload.length + 1 ∧ crc8 p.crc8Poly p.crc8Init body ≠ c := by
  obtain ⟨j, rfl⟩ : ∃ j, i = j + 1 + 1 := ⟨i - 2, by omega⟩
  rw [crsfFrame_eq, List.getD_cons_succ, List.getD_cons_succ] at hb
  rw [crsfFrame_eq, List.set_cons_succ, List.set_cons_succ]
  by_cases hj : j < (type :: payload).length
  · rw [List.getD_append _ _ _ _ hj, List.getD_eq_getElem _ _ hj] at hb
    rw [List.set_append_left _ _ hj]
    exact ⟨_, _, rfl, by rw [List.length_set]; rfl, crc8_set_ne hodd _ hj hb⟩
  · have hlast : j - (type :: payload).length = 0 := by rw [List.length_cons]; omega
    rw [List.getD_append_right _ _ _ _ (Nat.le_of_not_lt hj), hlast] at hb
    rw [List.set_append_right _ _ (Nat.le_of_not_lt hj), hlast]
    exact ⟨_, _, rfl, rfl, hb.symm⟩

/-- Settles O51: the changed frame is collected whole, and its last byte fails the CRC check. -/
theorem crsfRejectsOneChangedByte : Obligations.CrsfRejectsOneChangedByte := by
  intro s type payload i b hst hodd hmin hmax hi2 hi hb
  obtain ⟨hlen, hlegal⟩ := crsfLen_legal hmin hmax
  obtain ⟨body, c, hset, hbody, hcrc⟩ := crsfFrame_set s.params type payload hodd hi2 hi hb
  have hcount : body.length + 1 = (BitVec.ofNat 8 (payload.length + 2)).toNat := by omega
  obtain ⟨hidx, -, hacc⟩ := crsfCollected_whole s.params c s.crsf hcount _ rfl
  have hrun := execAll_crsf_whole s body c hst hlegal hcount
  rw [crsfJudge_of_crc_ne hidx (hacc.trans_ne hcrc), State.afterCrsf, Received.resp_quiet] at hrun
  rw [hset]
  exact ⟨_, hrun, .refl s.crsf, rfl, rfl, rfl⟩

end Sys2Proof.Machine
end

section
/-! SUPPORT. What `RX.SUMD` does (R333), and a whole SumD frame from `Sync`: how its bytes are
collected, checked (R331) and published (R334 to R336). -/

namespace Sys2Proof.Machine

/-! ### The judgement of a stored byte -/

section
variable {p : Params} {now : Word} {D : SumdDecoder}

/-- A byte before the `2n + 2`-th is not judged. -/
theorem sumdJudge_of_ne (hidx : D.idx.toNat ≠ 2 * D.exp.toNat + 2) : sumdJudge p now D = .quiet D :=
  if_neg hidx

/-- The check of R331. -/
theorem sumdValid_iff {n : Nat} :
    sumdValid n D = true ↔ beHalf (D.byte (3 + 2 * n)) (D.byte (4 + 2 * n)) = D.acc :=
  decide_eq_true_iff

theorem sumdJudge_of_valid (hidx : D.idx.toNat = 2 * D.exp.toNat + 2)
    (h : sumdValid D.exp.toNat D = true) :
    sumdJudge p now D = .published (sumdPublish p now D.exp.toNat D) :=
  (if_pos hidx).trans (if_pos h)

theorem sumdJudge_of_invalid (hidx : D.idx.toNat = 2 * D.exp.toNat + 2)
    (h : ¬ sumdValid D.exp.toNat D = true) :
    sumdJudge p now D = .quiet (checksumError sumdProtocol D) :=
  (if_pos hidx).trans (if_neg h)

end

/-- Settles O16: each FSM state by the equation of the receiver in it, and in `Data` each case of the
judgement of the stored byte. -/
theorem rxSumdResult : Obligations.RxSumdResult := by
  intro b s
  refine ⟨_, _, exec_rxSumd b s, fun hst => ?_, fun hst => ?_, fun hst => ?_, fun hst => ?_⟩
  · rw [sumdReceive_of_sync _ _ _ hst, Received.resp_quiet]
    exact ⟨rfl, fun hb => if_pos hb, fun hb => if_neg hb⟩
  · rw [sumdReceive_of_status _ _ _ hst, Received.resp_quiet]
    exact ⟨rfl, fun hb => if_pos hb, fun hb => if_neg hb⟩
  · rw [sumdReceive_of_count _ _ _ hst, Received.resp_quiet]
    exact ⟨rfl, fun hb => if_pos hb, fun hb => if_neg hb⟩
  · rw [sumdReceive_of_data _ _ _ hst]
    refine ⟨_, _, sumdStore s.params b s.sumd.clearGap, rfl, rfl, rfl, fun hidx => ?_,
      fun hidx hcrc => ?_, fun hidx hcrc => ?_⟩
    · rw [sumdJudge_of_ne hidx, Received.resp_quiet]
      exact ⟨rfl, rfl⟩
    · rw [sumdJudge_of_valid hidx (sumdValid_iff.2 hcrc), Received.resp_published]
      exact ⟨rfl, rfl⟩
    · rw [sumdJudge_of_invalid hidx (mt sumdValid_iff.1 hcrc), Received.resp_quiet]
      exact ⟨rfl, rfl⟩

/-! ### The bytes of a frame from `Sync` -/

theorem rxsSumd_append (bs cs : List Byte) : rxsSumd (bs ++ cs) = rxsSumd bs ++ rxsSumd cs :=
  List.map_append

theorem rxsSumd_singleton (b : Byte) : rxsSumd [b] = [.rxSumd b] := rfl

/-- The state `s` after its SumD decoder received a byte with the outcome `r` (R333). -/
def State.afterSumd (s : State) (r : Received SumdDecoder) : State :=
  (s.setSumd r.decoder).setResp r.resp

theorem exec_rxSumd_eq_afterSumd (b : Byte) (s : State) :
    exec (.rxSumd b) s = .next (s.afterSumd (sumdReceive s.params s.ticks b s.sumd)) := rfl

@[simp] theorem State.afterSumd_params (s : State) (r : Received SumdDecoder) :
    (s.afterSumd r).params = s.params := rfl

@[simp] theorem State.afterSumd_ticks (s : State) (r : Received SumdDecoder) :
    (s.afterSumd r).ticks = s.ticks := rfl

@[simp] theorem State.afterSumd_sumd (s : State) (r : Received SumdDecoder) :
    (s.afterSumd r).sumd = r.decoder := rfl

@[simp] theorem State.afterSumd_afterSumd (s : State) (r q : Received SumdDecoder) :
    (s.afterSumd r).afterSumd q = s.afterSumd q := rfl

/-- A decoder `D` in `Sync` after the sync byte, the status byte `status`, the count byte `count` and
the bytes `bs`, all of them stored and none judged. -/
def sumdCollected (p : Params) (status count : Byte) (bs : List Byte) (D : SumdDecoder) :
    SumdDecoder :=
  { D with
    gap := 0
    buf := storeFrom D.buf 0 (p.sumdSync :: status :: count :: bs)
    acc := crc16 p.sumdCrcPoly p.sumdCrcInit
      (p.sumdSync :: status :: count :: bs.take (2 * count.toNat))
    exp := count
    idx := BitVec.ofNat 8 bs.length
    st := .data }

section
variable (p : Params) (status : Byte) {count : Byte} {bs : List Byte} (D : SumdDecoder)

theorem sumdCollected_byte {i : Nat} (hi : i < bs.length + 3) (hlen : bs.length ≤ 66) :
    (sumdCollected p status count bs D).byte i = (p.sumdSync :: status :: count :: bs).getD i 0 := by
  have hin : 0 ≤ i ∧ i < 0 + (p.sumdSync :: status :: count :: bs).length ∧ i < 69 := by
    simp only [List.length_cons]
    omega
  rw [Decoder.byte, sumdCollected, storeFrom_getElem?, if_pos hin]
  rfl

theorem sumdCollected_idx (hlen : bs.length ≤ 66) :
    (sumdCollected p status count bs D).idx.toNat = bs.length :=
  toNat_ofNat_of_lt_256 (by omega)

/-- One more byte stored; the two CRC bytes are not fed to the CRC (R331). -/
theorem sumdStore_collected (b : Byte) (hlen : bs.length < 66) :
    sumdStore p b (sumdCollected p status count bs D).clearGap =
      sumdCollected p status count (bs ++ [b]) D := by
  have hidx := toNat_ofNat_of_lt_256 (n := bs.length) (by omega)
  have hsucc : BitVec.ofNat 8 bs.length + 1 = BitVec.ofNat 8 (bs ++ [b]).length := by
    rw [List.length_append, BitVec.ofNat_add]
    rfl
  have hbuf : storeFrom D.buf 0 (p.sumdSync :: status :: count :: (bs ++ [b])) =
      (storeFrom D.buf 0 (p.sumdSync :: status :: count :: bs)).setIfInBounds (3 + bs.length) b := by
    rw [← List.cons_append, ← List.cons_append, ← List.cons_append, storeFrom_append, Nat.zero_add,
      Nat.add_comm 3]
    rfl
  have hacc : (if bs.length < 2 * count.toNat then
      crc16Step p.sumdCrcPoly (crc16 p.sumdCrcPoly p.sumdCrcInit
        (p.sumdSync :: status :: count :: bs.take (2 * count.toNat))) b
      else crc16 p.sumdCrcPoly p.sumdCrcInit
        (p.sumdSync :: status :: count :: bs.take (2 * count.toNat))) =
      crc16 p.sumdCrcPoly p.sumdCrcInit
        (p.sumdSync :: status :: count :: (bs ++ [b]).take (2 * count.toNat)) := by
    split
    · rw [List.take_of_length_le (by omega), List.take_of_length_le (by simp; omega), ← crc16_snoc]
      rfl
    · rw [List.take_append_of_le_length (by omega)]
  simp only [sumdStore, sumdCollected, Decoder.clearGap, Decoder.putByte, hidx, hsucc, hbuf, hacc]

end

section
variable (s : State) {status count : Byte}

/-- The sync byte and the byte after it (R333). -/
theorem execAll_sumd_two (b : Byte) (hst : s.sumd.st = .sync) :
    execAll (rxsSumd [s.params.sumdSync, b]) s = .next (s.afterSumd (.quiet (sumdStatus s.params b
      (sumdHunt s.params s.params.sumdSync s.sumd.clearGap).clearGap))) := by
  have hstatus : (sumdHunt s.params s.params.sumdSync s.sumd.clearGap).st = .status := by
    rw [sumdHunt, if_pos rfl]
  simp only [rxsSumd, List.map_cons, List.map_nil, execAll_cons, execAll_nil, andThen_next,
    exec_rxSumd_eq_afterSumd, sumdReceive_of_sync _ _ _ hst, sumdReceive_of_status _ _ _ hstatus,
    Received.quiet_decoder, State.afterSumd_params, State.afterSumd_ticks, State.afterSumd_sumd,
    State.afterSumd_afterSumd]

/-- The sync byte, a legal status byte and a legal count byte (R333). -/
theorem execAll_sumd_header (hst : s.sumd.st = .sync)
    (hstatus : status = s.params.sumdStNormal ∨ status = s.params.sumdStFailsafe)
    (hcount : s.params.sumdMinCh ≤ count ∧ count ≤ s.params.sumdMaxCh) :
    execAll (rxsSumd [s.params.sumdSync, status, count]) s =
      .next (s.afterSumd (.quiet (sumdCollected s.params status count [] s.sumd))) := by
  have hthree : [s.params.sumdSync, status, count] = [s.params.sumdSync, status] ++ [count] := rfl
  rw [hthree, rxsSumd_append, execAll_append, execAll_sumd_two s status hst, andThen_next,
    rxsSumd_singleton, execAll_singleton, exec_rxSumd_eq_afterSumd, sumdStatus, if_pos hstatus,
    sumdReceive_of_count _ _ _ rfl, State.afterSumd_afterSumd, State.afterSumd_params, sumdCount,
    if_pos hcount, sumdHunt, if_pos rfl, sumdCollected, List.take_nil]
  rfl

/-- A legal header and no more bytes than its count announces, whatever they are: the bytes are
collected, and the last of them is judged. -/
theorem execAll_sumd_bytes (bs : List Byte) (hst : s.sumd.st = .sync)
    (hstatus : status = s.params.sumdStNormal ∨ status = s.params.sumdStFailsafe)
    (hcount : s.params.sumdMinCh ≤ count ∧ count ≤ s.params.sumdMaxCh) (hcap : count.toNat ≤ 32)
    (hlen : bs.length ≤ 2 * count.toNat + 2) :
    execAll (rxsSumd (s.params.sumdSync :: status :: count :: bs)) s =
      .next (s.afterSumd (sumdJudge s.params s.ticks
        (sumdCollected s.params status count bs s.sumd))) := by
  have hquiet (cs : List Byte) (h : cs.length < 2 * count.toNat + 2) :
      sumdJudge s.params s.ticks (sumdCollected s.params status count cs s.sumd) =
        .quiet (sumdCollected s.params status count cs s.sumd) :=
    sumdJudge_of_ne (by rw [sumdCollected_idx _ _ _ (by omega)]; exact h.ne)
  induction bs using List.reverseRecOn with
  | nil => rw [execAll_sumd_header s hst hstatus hcount, hquiet [] (Nat.succ_pos _)]
  | append_singleton bs b ih =>
    rw [List.length_append, List.length_singleton] at hlen
    rw [← List.cons_append, ← List.cons_append, ← List.cons_append, rxsSumd_append, execAll_append,
      ih (by omega), hquiet bs (by omega), andThen_next, rxsSumd_singleton, execAll_singleton,
      exec_rxSumd_eq_afterSumd, State.afterSumd_sumd, Received.quiet_decoder,
      sumdReceive_of_data _ _ _ rfl, State.afterSumd_params, sumdStore_collected _ _ _ _ (by omega),
      State.afterSumd_afterSumd, State.afterSumd_ticks]

end

/-- The last byte of a whole frame is the `2n + 2`-th, and the check compares the last two bytes with
the CRC of all those before them (R331). -/
theorem sumdCollected_whole (p : Params) (status : Byte) {count : Byte} {words : List Byte}
    (high low : Byte) (D : SumdDecoder) (hcap : count.toNat ≤ 32)
    (hwords : words.length = 2 * count.toNat) (E : SumdDecoder)
    (hE : E = sumdCollected p status count (words ++ [high, low]) D) :
    E.idx.toNat = 2 * E.exp.toNat + 2 ∧
    (sumdValid E.exp.toNat E = true ↔ beHalf high low =
      crc16 p.sumdCrcPoly p.sumdCrcInit (p.sumdSync :: status :: count :: words)) := by
  subst hE
  have hlen : (words ++ [high, low]).length = 2 * count.toNat + 2 := by simp [hwords]
  refine ⟨(sumdCollected_idx p status D (by omega)).trans hlen, ?_⟩
  have hbyte {i : Nat} (hi : i < 2) :
      (sumdCollected p status count (words ++ [high, low]) D).byte (3 + i + 2 * count.toNat) =
        [high, low].getD i 0 := by
    rw [sumdCollected_byte p status D (by omega) (by omega),
      show 3 + i + 2 * count.toNat = words.length + i + 1 + 1 + 1 by omega, List.getD_cons_succ,
      List.getD_cons_succ, List.getD_cons_succ,
      List.getD_append_right _ _ _ _ (Nat.le_add_right _ _), Nat.add_sub_cancel_left]
  have hhigh := hbyte (i := 0) (by decide)
  have hlow := hbyte (i := 1) (by decide)
  have hacc : (sumdCollected p status count (words ++ [high, low]) D).acc =
      crc16 p.sumdCrcPoly p.sumdCrcInit (p.sumdSync :: status :: count :: words) := by
    rw [sumdCollected, List.take_left' hwords]
  rw [sumdValid_iff, hacc]
  exact Eq.congr_left (congrArg₂ beHalf hhigh hlow)

/-! ### The frame of R112 -/

/-- The two bytes of a word give the word back (R80). -/
@[simp] theorem beHalf_highByte_lowByte (v : Half) : beHalf (highByte v) (lowByte v) = v := by
  apply BitVec.eq_of_getLsbD_eq
  intro i hi
  interval_cases i <;> simp [beHalf, lowByte, highByte]

/-- The bytes of a sequence of 16-bit words sent most significant byte first (R80). -/
def sumdWords (ch : List Half) : List Byte := ch.flatMap fun c => [highByte c, lowByte c]

theorem sumdWords_length (ch : List Half) : (sumdWords ch).length = 2 * ch.length := by
  simp [sumdWords, Nat.mul_comm]

theorem sumdWords_getD (ch : List Half) (j : Nat) :
    (sumdWords ch).getD (2 * j) 0 = highByte (ch.getD j 0) ∧
    (sumdWords ch).getD (2 * j + 1) 0 = lowByte (ch.getD j 0) := by
  induction ch generalizing j with
  | nil => simp [sumdWords, lowByte, highByte]
  | cons c cs ih =>
    cases j with
    | zero => exact ⟨rfl, rfl⟩
    | succ j => exact ih j

theorem sumdBody_eq (p : Params) (status : Byte) (ch : List Half) :
    sumdBody p status ch = p.sumdSync :: status :: BitVec.ofNat 8 ch.length :: sumdWords ch := rfl

/-- The CRC-16 a frame carries (R331). -/
def sumdFrameCrc (p : Params) (status : Byte) (ch : List Half) : Half :=
  crc16 p.sumdCrcPoly p.sumdCrcInit (sumdBody p status ch)

/-- A frame is its header, its channel words and its CRC. -/
theorem sumdFrame_eq (p : Params) (status : Byte) (ch : List Half) :
    sumdFrame p status ch = p.sumdSync :: status :: BitVec.ofNat 8 ch.length ::
      (sumdWords ch ++ [highByte (sumdFrameCrc p status ch), lowByte (sumdFrameCrc p status ch)]) :=
  rfl

/-- A legal number of channels gives a legal count byte. -/
theorem sumdCount_legal {p : Params} {n : Nat} (hp : p.wellFormed = true)
    (hmin : p.sumdMinCh.toNat ≤ n) (hmax : n ≤ p.sumdMaxCh.toNat) :
    (BitVec.ofNat 8 n).toNat = n ∧ n ≤ 32 ∧
      p.sumdMinCh ≤ BitVec.ofNat 8 n ∧ BitVec.ofNat 8 n ≤ p.sumdMaxCh := by
  obtain ⟨-, -, -, hmaxCh⟩ := wellFormed_bounds hp
  have hn := toNat_ofNat_of_lt_256 (n := n) (by omega)
  rw [BitVec.le_def, BitVec.le_def, hn]
  exact ⟨rfl, by omega, hmin, hmax⟩

/-- A decoder that has collected the frame of `status` and `ch` and not judged it. -/
def sumdHolding (p : Params) (status : Byte) (ch : List Half) (D : SumdDecoder) : SumdDecoder :=
  sumdCollected p status (BitVec.ofNat 8 ch.length)
    (sumdWords ch ++ [highByte (sumdFrameCrc p status ch), lowByte (sumdFrameCrc p status ch)]) D

section
variable (p : Params) (status : Byte) {ch : List Half} (D : SumdDecoder)

theorem sumdHolding_byte (hlen : ch.length ≤ 32) {i : Nat} (hi : i < 2 * ch.length + 5) :
    (sumdHolding p status ch D).byte i = (sumdFrame p status ch).getD i 0 := by
  have hwords := sumdWords_length ch
  exact sumdCollected_byte p status D (by simp; omega) (by simp; omega)

/-- The channels of a frame are the words it was made of (R334). -/
theorem sumdHolding_decode (hlen : ch.length ≤ 32) :
    sumdDecode ch.length (sumdHolding p status ch D) = ch := by
  refine List.ext_getElem (sumdDecode_length _ _) fun k hk hk' => ?_
  have hwords := sumdWords_length ch
  obtain ⟨hhigh, hlow⟩ := sumdWords_getD ch k
  have hbyte {i : Nat} (hi : i < 2 * ch.length) :
      (sumdHolding p status ch D).byte (i + 1 + 1 + 1) = (sumdWords ch).getD i 0 := by
    rw [sumdHolding_byte p status D hlen (by omega), sumdFrame_eq]
    exact List.getD_append _ _ _ _ (by omega)
  simp only [sumdDecode, List.getElem_map, List.getElem_range]
  rw [show 3 + 2 * k = 2 * k + 1 + 1 + 1 by omega, show 4 + 2 * k = 2 * k + 1 + 1 + 1 + 1 by omega,
    hbyte (by omega), hbyte (by omega), hhigh, hlow, beHalf_highByte_lowByte, List.getD_eq_getElem]

/-- FAILSAFE is what the status byte says (R336). -/
theorem sumdHolding_flags (hlen : ch.length ≤ 32) :
    sumdFlags p (sumdHolding p status ch D) = if status = p.sumdStFailsafe then 8 else 0 := by
  rw [sumdFlags, sumdHolding_byte p status D hlen (by omega)]
  rfl

end

/-- The bytes of a frame with a legal status and a legal number of channels, sent to a decoder in
`Sync`, are published (R331, R333). -/
theorem execAll_sumdFrame (s : State) {status : Byte} {ch : List Half}
    (hp : s.params.wellFormed = true) (hst : s.sumd.st = .sync)
    (hstatus : status = s.params.sumdStNormal ∨ status = s.params.sumdStFailsafe)
    (hmin : s.params.sumdMinCh.toNat ≤ ch.length) (hmax : ch.length ≤ s.params.sumdMaxCh.toNat) :
    execAll (rxsSumd (sumdFrame s.params status ch)) s =
      .next (s.afterSumd (.published (sumdPublish s.params s.ticks ch.length
        (sumdHolding s.params status ch s.sumd)))) := by
  obtain ⟨hn, hcap, hcount⟩ := sumdCount_legal hp hmin hmax
  have hwords : (sumdWords ch).length = 2 * (BitVec.ofNat 8 ch.length).toNat := by
    rw [hn, sumdWords_length]
  obtain ⟨hidx, hvalid⟩ := sumdCollected_whole s.params status _ _ s.sumd (hn.trans_le hcap) hwords
    (sumdHolding s.params status ch s.sumd) rfl
  have hjudge := sumdJudge_of_valid (p := s.params) (now := s.ticks) hidx
    (hvalid.2 (beHalf_highByte_lowByte _))
  have hexp : (sumdHolding s.params status ch s.sumd).exp.toNat = ch.length := hn
  rw [hexp] at hjudge
  rw [sumdFrame_eq, execAll_sumd_bytes s _ hst hstatus hcount (hn.trans_le hcap)
    (by rw [List.length_append, hwords]; rfl), ← sumdHolding, hjudge]

theorem sumdPublish_active (p : Params) (now : Word) (n : Nat) (E : SumdDecoder) :
    (sumdPublish p now n E).active = (E.bank (!E.act)).load (sumdDecode n E)
      ((sumdDecode n E).map (sumdClass p)) (sumdFlags p E) :=
  publish_active now _ _ _ E

/-- Settles O49: the buffer holds the frame, which decodes to its words, and Publish loads them into
the bank it shows. -/
theorem sumdFrameRoundTrip : Obligations.SumdFrameRoundTrip := by
  intro s status ch hp hst hstatus hmin hmax
  obtain ⟨-, hcap, -⟩ := sumdCount_legal hp hmin hmax
  have hrun := execAll_sumdFrame s hp hst hstatus hmin hmax
  rw [State.afterSumd, Received.resp_published, Received.published_decoder] at hrun
  refine ⟨_, hrun, ?_⟩
  rw [State.setSumd_sumd, sumdPublish_active, sumdHolding_decode s.params status s.sumd hcap,
    sumdHolding_flags s.params status s.sumd hcap]
  exact ⟨fun k hk => Bank.load_at _ _ _ hcap hk, Bank.load_cnt_toNat _ _ _ (by omega), rfl, rfl, rfl,
    rfl, rfl, rfl, rfl⟩

end Sys2Proof.Machine
end

section
/-! SUPPORT. The rejection of a SumD frame of which a channel, CRC or status byte was changed (R338):
for an odd polynomial each shift of the CRC-16 is injective, so two sequences that differ in one byte
have different CRCs. -/

namespace Sys2Proof.Machine

section
variable {poly : Half} (hodd : poly.getLsbD 0 = true)
include hodd

theorem repeat_crc16Shift_injective (n : Nat) :
    Function.Injective (Nat.repeat (crc16Shift poly) n) := by
  induction n with
  | zero => exact Function.injective_id
  | succ n ih => exact (crcShift_injective hodd).comp ih

theorem crc16Step_injective_register (b : Byte) : Function.Injective (crc16Step poly · b) :=
  fun _ _ h => (BitVec.xor_left_inj _).1 (repeat_crc16Shift_injective hodd 8 h)

theorem crc16Step_injective_byte (c : Half) : Function.Injective (crc16Step poly c) := by
  intro b d h
  have hplaced : b.setWidth 16 <<< 8 = d.setWidth 16 <<< 8 :=
    (BitVec.xor_right_inj c).1 (repeat_crc16Shift_injective hodd 8 h)
  apply BitVec.eq_of_getLsbD_eq
  intro i hi
  have hbit := congrArg (BitVec.getLsbD · (i + 8)) hplaced
  simpa [show i + 8 < 16 by omega, show i < 16 by omega] using hbit

theorem crc16_set_ne (init : Half) {bs : List Byte} {i : Nat} (hi : i < bs.length) {b : Byte}
    (hb : b ≠ bs[i]) : crc16 poly init (bs.set i b) ≠ crc16 poly init bs :=
  foldl_set_ne (crc16Step_injective_register hodd) (crc16Step_injective_byte hodd) init hi hb

end

@[simp] theorem highByte_beHalf (high low : Byte) : highByte (beHalf high low) = high := by
  apply BitVec.eq_of_getLsbD_eq
  intro i hi
  interval_cases i <;> simp [beHalf, highByte]

@[simp] theorem lowByte_beHalf (high low : Byte) : lowByte (beHalf high low) = low := by
  apply BitVec.eq_of_getLsbD_eq
  intro i hi
  interval_cases i <;> simp [beHalf, lowByte]

/-- A word and its two bytes determine each other (R80). -/
theorem beHalf_eq_iff {high low : Byte} {v : Half} :
    beHalf high low = v ↔ high = highByte v ∧ low = lowByte v := by
  constructor
  · rintro rfl
    simp
  · rintro ⟨rfl, rfl⟩
    simp

/-! ### The changed frame -/

/-- The CRC of a frame is not that of its bytes with one of them changed. -/
theorem sumdFrameCrc_set_ne (p : Params) (status : Byte) (ch : List Half) {i : Nat} {b : Byte}
    (hodd : p.sumdCrcPoly.getLsbD 0 = true) (hi : i < (sumdBody p status ch).length)
    (hb : b ≠ (sumdBody p status ch)[i]) :
    beHalf (highByte (sumdFrameCrc p status ch)) (lowByte (sumdFrameCrc p status ch)) ≠
      crc16 p.sumdCrcPoly p.sumdCrcInit ((sumdBody p status ch).set i b) := by
  rw [beHalf_highByte_lowByte]
  exact (crc16_set_ne hodd _ hi hb).symm

/-- A frame with its status byte, a channel byte or a CRC byte changed: as many bytes, and last two
bytes that are not the CRC-16 of those before them. -/
theorem sumdFrame_set (p : Params) (status : Byte) (ch : List Half) {i : Nat} {b : Byte}
    (hodd : p.sumdCrcPoly.getLsbD 0 = true) (hi : (3 ≤ i ∧ i < 5 + 2 * ch.length) ∨ i = 1)
    (hb : b ≠ (sumdFrame p status ch).getD i 0) : ∃ words high low,
      (sumdFrame p status ch).set i b = p.sumdSync :: (if i = 1 then b else status) ::
        BitVec.ofNat 8 ch.length :: (words ++ [high, low]) ∧
      words.length = 2 * ch.length ∧
      beHalf high low ≠ crc16 p.sumdCrcPoly p.sumdCrcInit
        (p.sumdSync :: (if i = 1 then b else status) :: BitVec.ofNat 8 ch.length :: words) := by
  have hwords := sumdWords_length ch
  rcases hi with ⟨hi3, hi⟩ | rfl
  · obtain ⟨j, rfl⟩ : ∃ j, i = j + 1 + 1 + 1 := ⟨i - 3, by omega⟩
    rw [if_neg (by omega)]
    rw [sumdFrame_eq] at hb ⊢
    simp only [List.getD_cons_succ] at hb
    simp only [List.set_cons_succ]
    by_cases hj : j < (sumdWords ch).length
    · rw [List.getD_append _ _ _ _ hj, List.getD_eq_getElem _ _ hj] at hb
      rw [List.set_append_left _ _ hj]
      refine ⟨_, _, _, rfl, by rw [List.length_set, hwords], ?_⟩
      exact sumdFrameCrc_set_ne p status ch hodd (i := j + 1 + 1 + 1)
        (by rw [sumdBody_eq]; simpa using hj) hb
    · rw [List.getD_append_right _ _ _ _ (Nat.le_of_not_lt hj)] at hb
      rw [List.set_append_right _ _ (Nat.le_of_not_lt hj)]
      obtain hhigh | hlow : j - (sumdWords ch).length = 0 ∨ j - (sumdWords ch).length = 1 := by
        omega
      · rw [hhigh] at hb ⊢
        exact ⟨_, _, _, rfl, hwords, fun h => hb (beHalf_eq_iff.1 h).1⟩
      · rw [hlow] at hb ⊢
        exact ⟨_, _, _, rfl, hwords, fun h => hb (beHalf_eq_iff.1 h).2⟩
  · exact ⟨_, _, _, rfl, hwords,
      sumdFrameCrc_set_ne p status ch hodd (i := 1) (by simp [sumdBody_eq]) hb⟩

/-- A frame of legal header whose last two bytes are not the CRC of those before them (R331,
R453). -/
theorem execAll_sumd_crc_ne (s : State) {status count high low : Byte} {words : List Byte}
    (hst : s.sumd.st = .sync)
    (hstatus : status = s.params.sumdStNormal ∨ status = s.params.sumdStFailsafe)
    (hcount : s.params.sumdMinCh ≤ count ∧ count ≤ s.params.sumdMaxCh) (hcap : count.toNat ≤ 32)
    (hwords : words.length = 2 * count.toNat)
    (hcrc : beHalf high low ≠ crc16 s.params.sumdCrcPoly s.params.sumdCrcInit
      (s.params.sumdSync :: status :: count :: words)) :
    execAll (rxsSumd (s.params.sumdSync :: status :: count :: (words ++ [high, low]))) s =
      .next (s.afterSumd (.quiet (checksumError sumdProtocol
        (sumdCollected s.params status count (words ++ [high, low]) s.sumd)))) := by
  obtain ⟨hidx, hvalid⟩ := sumdCollected_whole s.params status high low s.sumd hcap hwords _ rfl
  rw [execAll_sumd_bytes s _ hst hstatus hcount hcap (by simp [hwords]),
    sumdJudge_of_invalid hidx (mt hvalid.1 hcrc)]

/-- An illegal status byte (R332, R452). -/
theorem execAll_sumd_illegal_status (s : State) {b : Byte} (hst : s.sumd.st = .sync)
    (hb : ¬ (b = s.params.sumdStNormal ∨ b = s.params.sumdStFailsafe)) :
    execAll (rxsSumd [s.params.sumdSync, b]) s =
      .next (s.afterSumd (.quiet (framingError sumdProtocol
        (sumdHunt s.params s.params.sumdSync s.sumd.clearGap).clearGap))) := by
  rw [execAll_sumd_two s b hst, sumdStatus, if_neg hb]

/-- Settles O52: the changed frame is collected whole and fails the CRC check; an illegal status byte
ends it at once. -/
theorem sumdRejectsOneChangedByte : Obligations.SumdRejectsOneChangedByte := by
  rintro s status ch _ i b hp hst hodd hstatus hmin hmax rfl hb
  refine ⟨fun hi => ?_, fun ⟨hi, hillegal⟩ => ?_⟩
  · obtain ⟨hn, hcap, hcount⟩ := sumdCount_legal hp hmin hmax
    have hstatus' : (if i = 1 then b else status) = s.params.sumdStNormal ∨
        (if i = 1 then b else status) = s.params.sumdStFailsafe := by
      rcases hi with ⟨hi3, -⟩ | ⟨hi1, hlegal⟩
      · rwa [if_neg (by omega)]
      · rwa [if_pos hi1]
    obtain ⟨words, high, low, hset, hwords, hcrc⟩ :=
      sumdFrame_set s.params status ch hodd (hi.imp id And.left) hb
    have hrun := execAll_sumd_crc_ne s hst hstatus' hcount (hn.trans_le hcap)
      (hwords.trans (congrArg (2 * ·) hn.symm)) hcrc
    rw [State.afterSumd, Received.resp_quiet] at hrun
    rw [hset]
    exact ⟨_, hrun, .refl s.sumd, rfl, rfl, rfl⟩
  · have hrun := execAll_sumd_illegal_status s hst hillegal
    rw [State.afterSumd, Received.resp_quiet, sumdHunt, if_pos rfl] at hrun
    subst hi
    exact ⟨_, hrun, .refl s.sumd, rfl, rfl, rfl⟩

end Sys2Proof.Machine
end

section
/-! SUPPORT. The IBus sum in closed form (R370): the seed less the sum of the bytes, whatever their
order. -/

namespace Sys2Proof.Machine

theorem ibusSum_eq_sub (seed : Half) (bs : List Byte) :
    ibusSum seed bs = seed - BitVec.ofNat 16 (bs.map BitVec.toNat).sum := by
  induction bs generalizing seed with
  | nil => simp
  | cons b bs ih =>
    calc ibusSum seed (b :: bs)
      _ = seed - b.setWidth 16 - BitVec.ofNat 16 (bs.map BitVec.toNat).sum := ih _
      _ = seed - BitVec.ofNat 16 (b.toNat + (bs.map BitVec.toNat).sum) := by
        rw [BitVec.ofNat_add, BitVec.ofNat_toNat, sub_sub]

theorem ibusSum_perm (seed : Half) {bs cs : List Byte} (h : bs.Perm cs) :
    ibusSum seed bs = ibusSum seed cs := by
  rw [ibusSum_eq_sub, ibusSum_eq_sub, (h.map _).sum_eq]

theorem sum_toNat_le (bs : List Byte) : (bs.map BitVec.toNat).sum ≤ bs.length * 255 := by
  have hbyte : ∀ n ∈ bs.map BitVec.toNat, n ≤ 255 :=
    List.forall_mem_map.2 fun b _ => Nat.le_of_lt_succ b.isLt
  simpa using List.sum_le_card_nsmul _ 255 hbyte

/-- A sum of at most the seed does not wrap. -/
theorem ibusSum_toNat {seed : Half} {bs : List Byte}
    (h : (bs.map BitVec.toNat).sum ≤ seed.toNat) :
    (ibusSum seed bs).toNat = seed.toNat - (bs.map BitVec.toNat).sum := by
  have hsum : (BitVec.ofNat 16 (bs.map BitVec.toNat).sum).toNat = (bs.map BitVec.toNat).sum :=
    Nat.mod_eq_of_lt (h.trans_lt seed.isLt)
  rw [ibusSum_eq_sub, BitVec.toNat_sub_of_le (BitVec.le_def.2 (hsum.trans_le h)), hsum]

/-- Settles O29, by induction on the bytes; thirty bytes sum to less than 2^16. -/
theorem ibusSumIsSeedLessSum : Obligations.IbusSumIsSeedLessSum := by
  refine ⟨ibusSum_eq_sub, fun seed _ _ h => ibusSum_perm seed h, fun bs hlen => ?_⟩
  exact ibusSum_toNat (seed := 0xFFFF) ((sum_toNat_le bs).trans (by rw [hlen]; decide))

end Sys2Proof.Machine
end

section
/-! SUPPORT. The CRC steps are linear over GF(2), where addition is XOR (R371, R373): one shift is,
so its repetitions are. -/

namespace Sys2Proof.Machine

/-- Linear over GF(2), whose only scalars are 0 and 1: additive. -/
def XorLinear {w : Nat} (f : BitVec w → BitVec w) : Prop :=
  Function.Semiconj₂ f (· ^^^ ·) (· ^^^ ·)

theorem XorLinear.repeat {w : Nat} {f : BitVec w → BitVec w} (h : XorLinear f) (n : Nat) :
    XorLinear (Nat.repeat f n) := by
  induction n with
  | zero => exact Function.Semiconj₂.id_left _
  | succ n ih => exact Function.Semiconj₂.comp h ih

theorem XorLinear.map_zero {w : Nat} {f : BitVec w → BitVec w} (h : XorLinear f) : f 0 = 0 := by
  calc f 0
    _ = f (0 ^^^ 0) := by rw [BitVec.xor_self]; rfl
    _ = f 0 ^^^ f 0 := h 0 0
    _ = 0 := BitVec.xor_self

theorem xor_xor_xor_comm {w : Nat} (c d b e : BitVec w) :
    (c ^^^ d) ^^^ (b ^^^ e) = (c ^^^ b) ^^^ (d ^^^ e) := by
  ac_rfl

/-- The polynomial is fed back for the sum of two registers when it is for exactly one of them. -/
theorem crcShift_xorLinear {w : Nat} (poly : BitVec w) :
    XorLinear fun c : BitVec w => if c.msb then (c <<< 1) ^^^ poly else c <<< 1 := by
  intro c d
  cases hc : c.msb <;> cases hd : d.msb <;>
    simp only [BitVec.msb_xor, BitVec.shiftLeft_xor_distrib, hc, hd, bne_self_eq_false,
      Bool.bne_true, Bool.bne_false, Bool.not_false, Bool.false_eq_true, if_true, if_false]
  case false.true => exact BitVec.xor_assoc _ _ _
  case true.false => ac_rfl
  case true.true => rw [xor_xor_xor_comm, BitVec.xor_self, BitVec.xor_zero]

theorem crc8Step_xor (poly c d b e : Byte) :
    crc8Step poly (c ^^^ d) (b ^^^ e) = crc8Step poly c b ^^^ crc8Step poly d e := by
  unfold crc8Step
  rw [xor_xor_xor_comm]
  exact (crcShift_xorLinear poly).repeat 8 _ _

theorem crc16Step_xor (poly c d : Half) (b e : Byte) :
    crc16Step poly (c ^^^ d) (b ^^^ e) = crc16Step poly c b ^^^ crc16Step poly d e := by
  unfold crc16Step
  rw [BitVec.setWidth_xor, BitVec.shiftLeft_xor_distrib, xor_xor_xor_comm]
  exact (crcShift_xorLinear poly).repeat 8 _ _

/-- The table form of the step (R372). -/
theorem crc8Step_eq_table (poly c b : Byte) : crc8Step poly c b = crc8Step poly 0 (c ^^^ b) :=
  congrArg (Nat.repeat (crc8Shift poly) 8) BitVec.zero_xor.symm

/-- Settles O30: the fold, the check value, the table form, and linearity of both steps. -/
theorem crcStepsAreLinear : Obligations.CrcStepsAreLinear :=
  ⟨fun poly init bs b => ⟨crc8_nil poly init, crc8_snoc poly init bs b⟩, by decide +kernel,
    crc8Step_eq_table, crc8Step_xor, crc16Step_xor⟩

/-! ### A sequence's own CRC -/

theorem crc8Step_self (poly c : Byte) : crc8Step poly c c = 0 := by
  unfold crc8Step
  rw [BitVec.xor_self]
  exact ((crcShift_xorLinear poly).repeat 8).map_zero

/-- Shifts that move no bit of the register out feed nothing back. -/
theorem repeat_crc16Shift_setWidth (poly : Half) (b : Byte) {n : Nat} (hn : n ≤ 8) :
    Nat.repeat (crc16Shift poly) n (b.setWidth 16) = b.setWidth 16 <<< n := by
  induction n with
  | zero => simp [Nat.repeat]
  | succ n ih =>
    have hmsb : (b.setWidth 16 <<< n : Half).msb = false := by
      rw [BitVec.msb_eq_getLsbD_last, BitVec.getLsbD_shiftLeft, BitVec.getLsbD_setWidth,
        BitVec.getLsbD_of_ge b _ (by omega)]
      simp
    calc Nat.repeat (crc16Shift poly) (n + 1) (b.setWidth 16)
      _ = crc16Shift poly (b.setWidth 16 <<< n) :=
        congrArg (crc16Shift poly) (ih (Nat.le_of_succ_le hn))
      _ = (b.setWidth 16 <<< n) <<< 1 := by rw [crc16Shift, if_neg (by simp [hmsb])]
      _ = b.setWidth 16 <<< (n + 1) := (BitVec.shiftLeft_add _ _ _).symm

/-- The high byte taken from a register leaves the low byte. -/
theorem xor_highByte (c : Half) :
    c ^^^ ((highByte c).setWidth 16 <<< 8) = (lowByte c).setWidth 16 := by
  apply BitVec.eq_of_getLsbD_eq
  intro i hi
  interval_cases i <;> simp [highByte, lowByte]

theorem crc16Step_highByte (poly c : Half) :
    crc16Step poly c (highByte c) = (lowByte c).setWidth 16 <<< 8 := by
  rw [crc16Step, xor_highByte]
  exact repeat_crc16Shift_setWidth poly _ le_rfl

theorem crc16Step_shifted_self (poly : Half) (b : Byte) :
    crc16Step poly (b.setWidth 16 <<< 8) b = 0 := by
  rw [crc16Step, BitVec.xor_self]
  exact ((crcShift_xorLinear poly).repeat 8).map_zero

/-- Settles O31: each byte of the CRC cancels the register's high byte, and a zero register stays
zero under the shifts. -/
theorem ownCrcLeavesZero : Obligations.OwnCrcLeavesZero := by
  refine ⟨fun poly init bs => ?_, fun poly init bs => ?_⟩
  · rw [crc8_snoc, crc8Step_self]
  · rw [crc16_append]
    generalize crc16 poly init bs = c
    calc crc16 poly c [highByte c, lowByte c]
      _ = crc16Step poly (crc16Step poly c (highByte c)) (lowByte c) := rfl
      _ = 0 := by rw [crc16Step_highByte, crc16Step_shifted_self]

end Sys2Proof.Machine
end

section
/-! SUPPORT. What the CRC-8 generator's commands answer (R375 to R377). -/

namespace Sys2Proof.Machine

/-- Settles O20: each command is a write of the accumulator, but for `CRC8.RD`, and the response. -/
theorem crc8CommandResults : Obligations.Crc8CommandResults :=
  fun b s => ⟨exec_crc8Init s, exec_crc8Feed b s, exec_crc8Rd s⟩

end Sys2Proof.Machine
end

section
/-! SUPPORT. The fields of a word put together from placed fields (R8), and the layout rules the
words of the read map keep (R43 to R50). -/

namespace Sys2Proof

/-! ### A field read back from a placed field -/

/-- A field read where it was placed; more bits than it has read zeros. -/
@[simp] theorem extractLsb'_place_self {w lo k len : Nat} (v : BitVec k) (h : lo + len ≤ w) :
    (place w lo v).extractLsb' lo len = v.setWidth len := by
  refine (extractLsb'_eq_iff _ _ _).2 fun i hi => ?_
  have hw : lo + i < w := by omega
  simp [hw, hi]

/-- Bits below a placed field are 0. -/
@[simp] theorem extractLsb'_place_below {w lo start len k : Nat} (v : BitVec k)
    (h : start + len ≤ lo) :
    (place w lo v).extractLsb' start len = 0 := by
  refine (extractLsb'_eq_iff _ _ _).2 fun i hi => ?_
  have hlo : ¬ lo ≤ start + i := by omega
  simp [hlo]

/-- Bits above a placed field are 0. -/
@[simp] theorem extractLsb'_place_above {w lo start len k : Nat} (v : BitVec k)
    (h : lo + k ≤ start) :
    (place w lo v).extractLsb' start len = 0 := by
  refine (extractLsb'_eq_iff _ _ _).2 fun i hi => ?_
  have hk : k ≤ start + i - lo := by omega
  simp [BitVec.getLsbD_of_ge v _ hk]

/-- Zero-extension is placing at bit 0. -/
theorem setWidth_eq_place (w : Nat) {k : Nat} (v : BitVec k) : v.setWidth w = place w 0 v := by
  simp [place]

end Sys2Proof

namespace Sys2Proof.Machine

/-! ### The layout of each word -/

section
variable {σ : Type} {n cap : Nat}

/-- The layout COUNTS and FSMDBG share (R46, R47): two bytes below a 16-bit field. -/
theorem halfBytes_fields (high : Half) (mid low : Byte) {w : Word}
    (hw : w = place 32 16 high ||| place 32 8 mid ||| place 32 0 low) :
    w.extractLsb' 0 8 = low ∧ w.extractLsb' 8 8 = mid ∧ w.extractLsb' 16 16 = high := by
  subst hw
  simp [BitVec.extractLsb'_or]

/-- A field zero-extended to a word (R48, R50). -/
theorem zeroExtended_fields {k : Nat} (v : BitVec k) (hk : k ≤ 32) :
    (v.setWidth 32).extractLsb' 0 k = v ∧ (v.setWidth 32).extractLsb' k (32 - k) = 0 := by
  rw [setWidth_eq_place]
  simp [hk]

/-- STATUS reads as R44 says. -/
theorem statusWord_rule (P : Protocol σ) (D : Decoder σ n cap) :
    StatusRule P D (statusWord P D) := by
  unfold StatusRule statusWord
  simp [BitVec.extractLsb'_or]

/-- LASTFRAME reads as R49 says. -/
theorem lastFrameWord_fields (m : Mirror) :
    (lastFrameWord m).extractLsb' 0 8 = m.type ∧ (lastFrameWord m).extractLsb' 8 8 = m.dest ∧
    (lastFrameWord m).extractLsb' 16 8 = m.orig ∧ (lastFrameWord m).getLsbD 24 = m.ext ∧
    (lastFrameWord m).getLsbD 25 = m.present ∧ (lastFrameWord m).extractLsb' 26 6 = m.len := by
  unfold lastFrameWord
  simp [BitVec.extractLsb'_or]

/-! ### The read map keeps the layouts -/

/-- What the common read map answers is the word of its address's layout. -/
theorem readCommon_rule {P : Protocol σ} {D : Decoder σ n cap} {a : Byte} {w : Word}
    (h : readCommon P D a = some w) : CommonRule P D a w := by
  refine ⟨fun ha => ?_, ?_, ?_, ?_, ?_, ?_⟩
  · have hread : readCommon P D a = some (chanWord D a.toNat) := if_pos ha
    cases hread.symm.trans h
    exact chanWord_rule D a.toNat
  all_goals
    rintro rfl
    cases h
  · exact statusWord_rule P D
  · rfl
  · exact halfBytes_fields D.frames D.ckErr D.frmErr rfl
  · exact halfBytes_fields D.gap D.exp D.idx rfl
  · exact zeroExtended_fields D.age (by decide)

/-- The CRSF map answers what the common map does where that has an address (R42). -/
theorem readCrsf_of_common (D : CrsfDecoder) (m : Mirror) {a : Byte} (ha : a.toNat ≤ 0x24) :
    readCrsf D m a = readCommon crsfProtocol D a := by
  rcases readCrsf_cases D m a with ⟨rfl, -⟩ | ⟨hlow, -⟩ | ⟨-, -, e⟩
  · exact absurd ha (by decide)
  · omega
  · exact e

/-- What the CRSF map answers at an address it alone has is the word of R49 or R50. -/
theorem readCrsf_mirrorRule {D : CrsfDecoder} {m : Mirror} {a : Byte} {w : Word}
    (h : readCrsf D m a = some w) : MirrorRule m a w := by
  refine ⟨?_, fun hlow hhigh => ?_⟩
  · rintro rfl
    cases h
    exact lastFrameWord_fields m
  · rcases readCrsf_cases D m a with ⟨rfl, -⟩ | ⟨-, -, e⟩ | ⟨-, hout, -⟩
    · exact absurd hlow (by decide)
    · cases e.symm.trans h
      exact zeroExtended_fields (m.byte (a.toNat - 0x40)) (by decide)
    · exact absurd ⟨hlow, hhigh⟩ hout

/-- A decoder's read of a listed address: the word of the common map, by its layout rule. -/
theorem exists_readCommon_rule (P : Protocol σ) (D : Decoder σ n cap) {a : Byte}
    (ha : a.toNat ≤ 0x24) : ∃ w, readCommon P D a = some w ∧ CommonRule P D a w := by
  have hlisted : (readCommon P D a).isSome = true := by
    rw [readCommon_isSome]
    exact decide_eq_true ha
  obtain ⟨w, hw⟩ := Option.isSome_iff_exists.1 hlisted
  exact ⟨w, hw, readCommon_rule hw⟩

end

/-- Settles O18: the word each map answers keeps the layout rule of its address, and a read writes
the response alone. -/
theorem readResults : Obligations.ReadResults := by
  refine fun a s => ⟨fun ha => ⟨?_, ?_, ?_, ?_⟩, fun ha => ?_⟩
  · obtain ⟨w, hw, hrule⟩ := exists_readCommon_rule sbusProtocol s.sbus ha
    exact ⟨w, by rw [exec_rdSbus, hw]; rfl, hrule⟩
  · obtain ⟨w, hw, hrule⟩ := exists_readCommon_rule ibusProtocol s.ibus ha
    exact ⟨w, by rw [exec_rdIbus, hw]; rfl, hrule⟩
  · obtain ⟨w, hw, hrule⟩ := exists_readCommon_rule crsfProtocol s.crsf ha
    exact ⟨w, by rw [exec_rdCrsf, readCrsf_of_common _ _ ha, hw]; rfl, hrule⟩
  · obtain ⟨w, hw, hrule⟩ := exists_readCommon_rule sumdProtocol s.sumd ha
    exact ⟨w, by rw [exec_rdSumd, hw]; rfl, hrule⟩
  · have hlisted : (readCrsf s.crsf s.mirror a).isSome = true := by
      rw [readCrsf_isSome, Bool.or_eq_true]
      exact .inr (by simpa [crsfAddress, BitVec.toNat_eq] using ha)
    obtain ⟨w, hw⟩ := Option.isSome_iff_exists.1 hlisted
    exact ⟨w, by rw [exec_rdCrsf, hw]; rfl, readCrsf_mirrorRule hw⟩

end Sys2Proof.Machine
end

section
/-! SUPPORT. The host commands that read no status word: NOP, TICK, RD.TIME, the ABORTs and RESET
(R400 to R409), and a timer whose timeout is 0 or 1 (R405). -/

namespace Sys2Proof.Machine

/-! ### A timeout of 0 and of 1 (R405) -/

section
variable {σ : Type} {n cap a : Nat} {P : Protocol σ} {p : Params} {D E : Decoder σ n cap}

/-- Before the first TICK: a legal gap under a timeout of 0 is 0. -/
theorem Decoder.TimersOk.timersDisabled (h : D.TimersOk P p) : TimersDisabled P p D D := by
  obtain ⟨-, hgap, -⟩ := h
  refine ⟨fun ht => ⟨?_, rfl, rfl, rfl, rfl⟩, fun _ => ⟨rfl, rfl⟩⟩
  rw [ht] at hgap
  exact hgap.resolve_right BitVec.not_lt_zero

/-- One more TICK with a timer disabled: it cannot fire, and what it counts stays (R402, R403). -/
theorem TimersDisabled.tick (h : TimersDisabled P p D E) :
    TimersDisabled P p D (tickDecoder P p E) := by
  obtain ⟨hbyte, hstale⟩ := h
  obtain ⟨hst, hidx, hexp, hgap, hfrm, hvalid, hage, -⟩ := tickDecoder_rule P p E
  refine ⟨fun ht => ?_, fun ht => ?_⟩
  · have hsilent : ¬ GapFires P p E := fun hf => hf.2.1 ht
    obtain ⟨egap, est, eidx, eexp, efrm⟩ := hbyte ht
    rw [hst, hidx, hexp, hgap, hfrm]
    simp only [if_neg hsilent, if_pos ht, egap, ite_self]
    exact ⟨trivial, est, eidx, eexp, efrm⟩
  · have hsilent : ¬ StaleFires P p E := fun hf => hf.2.1 ht
    have hstopped : ¬ (E.valid = true ∧ P.tStale p ≠ 0) := fun hf => hf.2 ht
    rw [hvalid, hage, if_neg hsilent, if_neg hstopped]
    exact hstale ht

/-- Any number of TICKs leaves what a disabled timer counts. -/
theorem DecoderView.timersDisabled {view : State → Decoder σ n cap} (hview : DecoderView a P view)
    {k : Nat} {s t : State} (hrun : execAll (ticksOf k) s = .next t)
    (hok : (view s).TimersOk P s.params) : TimersDisabled P s.params (view s) (view t) := by
  induction k generalizing t with
  | zero =>
    cases hrun
    exact hok.timersDisabled
  | succ k ih =>
    rw [ticksOf, List.replicate_succ'] at hrun
    obtain ⟨u, hu, htick⟩ := execAll_snoc_eq_next hrun
    rw [hview.tick htick, execAll_keeps_params hu]
    exact (ih hu).tick

theorem gapFires_of_timeout_one (hpartial : P.isIdle D.st = false) (hgap : D.gap = 0)
    (ht : P.tByte p = 1) : GapFires P p D :=
  ⟨hpartial, by rw [ht]; decide, by rw [hgap, ht]; rfl⟩

theorem staleFires_of_timeout_one (hvalid : D.valid = true) (hage : D.age = 0)
    (ht : P.tStale p = 1) : StaleFires P p D :=
  ⟨hvalid, by rw [ht]; decide, by rw [hage, ht]; rfl⟩

end

/-- Settles O43: a timeout of 0 by `TimersDisabled.tick` for every TICK, a timeout of 1 because the
timer fires on the first. -/
theorem zeroDisablesATimer : Obligations.ZeroDisablesATimer := by
  refine ⟨fun s t k hs hrun => ?_, fun σ n cap P p D => ⟨fun hpartial hgap ht => ?_,
    fun hvalid hage ht => ?_⟩⟩
  · obtain ⟨-, ⟨hsbus, -⟩, ⟨hibus, -⟩, ⟨hcrsf, -⟩, -, ⟨hsumd, -⟩⟩ := hs
    exact ⟨sbus_view.timersDisabled hrun hsbus, ibus_view.timersDisabled hrun hibus,
      crsf_view.timersDisabled hrun hcrsf, sumd_view.timersDisabled hrun hsumd⟩
  · obtain ⟨hst, -, -, hfrm, -⟩ := tickDecoder_of_gapFires (gapFires_of_timeout_one hpartial hgap ht)
    exact ⟨hst, hfrm⟩
  · obtain ⟨-, -, -, -, -, hvalid', -, herr, -⟩ := tickDecoder_rule P p D
    have hfires := staleFires_of_timeout_one hvalid hage ht
    rw [hvalid', herr, if_pos hfires, if_pos hfires]
    exact ⟨rfl, rfl⟩

/-! ### The results of the commands -/

/-- Settles O17: TICK runs `tickDecoder` on every decoder, and `tickDecoder_rule` says what that
leaves. -/
theorem tickResult : Obligations.TickResult :=
  fun s => ⟨_, _, _, _, exec_tick s, tickDecoder_rule _ _ _, tickDecoder_rule _ _ _,
    tickDecoder_rule _ _ _, tickDecoder_rule _ _ _⟩

/-- Settles O11: TICK counts, and of the other commands RESET alone names the counter. -/
theorem ticksChangeOnlyByTickAndReset : Obligations.TicksChangeOnlyByTickAndReset := by
  intro i s t h
  cases i with
  | tick =>
    cases h
    exact ⟨fun _ => rfl, fun hne => absurd rfl hne⟩
  | reset => exact ⟨nofun, fun _ hne => absurd rfl hne⟩
  | _ =>
    simp at h
    subst h
    exact ⟨nofun, fun _ _ => rfl⟩

/-- Settles O12: by the equation of NOP. -/
theorem nopResult : Obligations.NopResult := exec_nop

/-- Settles O19: by the equation of RD.TIME. -/
theorem rdTimeResult : Obligations.RdTimeResult := exec_rdTime

/-- Settles O21: each ABORT restarts its decoder and writes the response. -/
theorem abortResults : Obligations.AbortResults :=
  fun s => ⟨exec_abortSbus s, exec_abortIbus s, exec_abortCrsf s, exec_abortSumd s⟩

/-- Settles O22: by the equation of RESET. -/
theorem resetResult : Obligations.ResetResult := exec_reset

end Sys2Proof.Machine
end

section
/-! SUPPORT. That every step completes, with or without a command (R465, R467). -/

namespace Sys2Proof.Machine

/-- Settles O8. -/
theorem stepWithoutCommandKeepsState : Obligations.StepWithoutCommandKeepsState :=
  fun _ hq => step_of_nil hq

/-- Settles O9: a step keeps the state if no word waits, and otherwise executes the oldest one, which
completes whether or not the word is legal. -/
theorem everyStepCompletes : Obligations.EveryStepCompletes := by
  intro s
  cases hq : s.pending with
  | nil => exact ⟨s, step_of_nil hq⟩
  | cons w rest =>
    rw [step_of_cons hq]
    exact executeWord_total w (s.setPending rest)

end Sys2Proof.Machine
end

section
/-! SUPPORT. The reads directly after reset (R491): the words of a decoder and of a mirror right after
reset. -/

namespace Sys2Proof.Machine

section
variable {σ : Type} {n cap : Nat} (st : σ)

theorem Decoder.reset_active : (Decoder.reset st n cap).active = Bank.reset cap := rfl

/-- No channel is present right after reset: the class reads OUT, every other bit 0 (R43, R53). -/
theorem chanWord_reset (k : Nat) : chanWord (Decoder.reset st n cap) k = 0x000C0000 := by
  have hvalid : (Decoder.reset st n cap).valid = false := rfl
  simp [chanWord, Decoder.reset_active, hvalid, place]

/-- STATUS right after reset, from a state of code 0 (R44, R53). -/
theorem statusWord_reset {P : Protocol σ} (hcode : P.code st = 0) :
    statusWord P (Decoder.reset st n cap) = 0 := by
  have hcode : P.code (Decoder.reset st n cap).st = 0 := hcode
  have herr : (Decoder.reset st n cap).lastErr.code = 0 := rfl
  have hvalid : (Decoder.reset st n cap).valid = false := rfl
  have hhas : (Decoder.reset st n cap).has = false := rfl
  simp [statusWord, Decoder.reset_active, hcode, herr, hvalid, hhas, place]

theorem countsWord_reset : countsWord (Decoder.reset st n cap) = 0 := by
  simp [countsWord, Decoder.reset, place]

theorem fsmdbgWord_reset : fsmdbgWord (Decoder.reset st n cap) = 0 := by
  simp [fsmdbgWord, Decoder.reset, place]

/-- The common read map right after reset (R42, R491). -/
theorem readCommon_reset {P : Protocol σ} (hcode : P.code st = 0) {a : Byte}
    (ha : a.toNat ≤ 0x24) : readCommon P (Decoder.reset st n cap) a =
      some (if a.toNat ≤ 0x1F then 0x000C0000 else 0) := by
  rcases readCommon_cases P (Decoder.reset st n cap) a with
    ⟨hchan, e⟩ | ⟨rfl, e⟩ | ⟨rfl, e⟩ | ⟨rfl, e⟩ | ⟨rfl, e⟩ | ⟨rfl, e⟩ | ⟨hreserved, -⟩
  · rw [e, chanWord_reset, if_pos hchan]
  · rw [e, statusWord_reset st hcode]
    rfl
  · exact e
  · rw [e, countsWord_reset]
    rfl
  · rw [e, fsmdbgWord_reset]
    rfl
  · exact e
  · exact absurd ha (Nat.not_le.2 hreserved)

end

theorem lastFrameWord_reset : lastFrameWord Mirror.reset = 0 := by decide

theorem Mirror.reset_byte (i : Nat) : Mirror.reset.byte i = 0 := by
  unfold Mirror.byte Mirror.reset
  by_cases h : i < 64 <;> simp [h]

/-- LASTFRAME and XBUF right after reset, whatever the decoder beside them (R49, R50, R491). -/
theorem readCrsf_reset_mirror (D : CrsfDecoder) {a : Byte}
    (ha : a = 0x25 ∨ (0x40 ≤ a.toNat ∧ a.toNat ≤ 0x7F)) :
    readCrsf D Mirror.reset a = some 0 := by
  rcases readCrsf_cases D Mirror.reset a with ⟨-, e⟩ | ⟨-, -, e⟩ | ⟨hlast, hbuf, -⟩
  · rw [e, lastFrameWord_reset]
  · rw [e, ← Mirror.byte, Mirror.reset_byte]
    rfl
  · exact absurd ha (not_or.2 ⟨hlast, hbuf⟩)

/-- A read of a listed address writes its word into the response and nothing else (R406). -/
theorem next_readAnswer_of_some {o : Option Word} {w : Word} {s : State} (h : o = some w) :
    (.next (s.setResp (readAnswer o)) : Host.Outcome State Fault Refusal) =
      .next { s with resp := ⟨.ok, w⟩ } := by
  rw [h]
  rfl

/-- Settles O24: every decoder and the mirror are the reset ones, and a read writes the response
alone. -/
theorem readsAfterReset : Obligations.ReadsAfterReset := by
  intro p s h
  obtain ⟨q, r, rfl⟩ := h.eq_resetWith
  refine ⟨fun a ha i hi => ?_, fun a ha => ?_, rfl, rfl, rfl, rfl, rfl, rfl⟩
  · simp only [List.mem_cons, List.not_mem_nil, or_false] at hi
    rcases hi with rfl | rfl | rfl | rfl
    · exact (exec_rdSbus a _).trans (next_readAnswer_of_some (readCommon_reset _ rfl ha))
    · exact (exec_rdIbus a _).trans (next_readAnswer_of_some (readCommon_reset _ rfl ha))
    · exact (exec_rdCrsf a _).trans (next_readAnswer_of_some
        ((readCrsf_of_common _ _ ha).trans (readCommon_reset _ rfl ha)))
    · exact (exec_rdSumd a _).trans (next_readAnswer_of_some (readCommon_reset _ rfl ha))
  · exact (exec_rdCrsf a _).trans (next_readAnswer_of_some (readCrsf_reset_mirror _ ha))

end Sys2Proof.Machine
end

section
/-! SUPPORT. Recovery after a silence (R498): without a byte a decoder is idle, or its gap has counted
every TICK, and it cannot count to its timeout. -/

namespace Sys2Proof.Machine

/-! ### A decoder without a byte -/

/-- A decoder that is idle, or has counted at least `k` TICKs, and fewer than its timeout, since the
last byte of its partial frame. -/
def SilentFor {σ : Type} {n cap : Nat} (P : Protocol σ) (p : Params) (k : Nat) (D : Decoder σ n cap) :
    Prop :=
  P.isIdle D.st = true ∨ (k ≤ D.gap.toNat ∧ D.gap < P.tByte p)

section
variable {σ : Type} {n cap k : Nat} {P : Protocol σ} {p : Params} {D : Decoder σ n cap}

theorem Decoder.TimersOk.silentFor_zero (h : D.TimersOk P p) (ht : P.tByte p ≠ 0) :
    SilentFor P p 0 D := by
  obtain ⟨-, hgap, -⟩ := h
  refine .inr ⟨Nat.zero_le _, ?_⟩
  rcases hgap with hgap | hgap
  · bv_omega
  · exact hgap

/-- A TICK drops the partial frame, or counts and stays below the timeout (R402). -/
theorem SilentFor.tick (h : SilentFor P p k D) (ht : P.tByte p ≠ 0)
    (hinitial : P.isIdle P.initial = true) : SilentFor P p (k + 1) (tickDecoder P p D) := by
  obtain ⟨hst, -, -, hgap, -⟩ := tickDecoder_rule P p D
  by_cases hfires : GapFires P p D
  · rw [if_pos hfires] at hst
    exact .inl (hst ▸ hinitial)
  rw [if_neg hfires] at hst
  by_cases hidle : P.isIdle D.st = true
  · exact .inl (hst ▸ hidle)
  · obtain ⟨hcount, hlt⟩ := h.resolve_left hidle
    have hbelow : D.gap + 1 ≠ P.tByte p :=
      fun he => hfires ⟨Bool.eq_false_of_not_eq_true hidle, ht, he⟩
    rw [if_neg (not_or.2 ⟨hidle, hfires⟩), if_neg ht] at hgap
    exact .inr (by rw [hgap]; bv_omega)

theorem SilentFor.isIdle (h : SilentFor P p k D) (hk : (P.tByte p).toNat ≤ k) :
    P.isIdle D.st = true :=
  h.resolve_right fun ⟨hcount, hlt⟩ => Nat.not_lt.2 (hk.trans hcount) (BitVec.lt_def.1 hlt)

end

/-! ### A decoder and the commands that act on it -/

/-- `view` shows decoder `a` of the block, whose bytes come by `rx`: beside `rx`, whatever acts on the
decoder leaves it idle, and its timers are legal in every state of a run. -/
structure DecoderLine {σ : Type} {n cap : Nat} (a : Nat) (P : Protocol σ)
    (view : State → Decoder σ n cap) (rx : Byte → Instr) : Prop extends DecoderView a P view where
  own_idle : ∀ {i : Instr} {s t : State}, exec i s = .next t → (∀ b, i ≠ rx b) →
    partOf i = some a ∨ i = .reset → P.isIdle (view t).st = true
  timersOk : ∀ {s : State}, s.Inv → (view s).TimersOk P s.params

theorem sbus_line : DecoderLine 0 sbusProtocol State.sbus .rxSbus where
  toDecoderView := sbus_view
  own_idle {i _ _} h hrx hi := by
    cases i with
    | rxSbus b => exact absurd rfl (hrx b)
    | abortSbus | reset => cases h; rfl
    | _ => simp [partOf] at hi
  timersOk := fun ⟨_, ⟨htimers, _⟩, _⟩ => htimers

theorem ibus_line : DecoderLine 1 ibusProtocol State.ibus .rxIbus where
  toDecoderView := ibus_view
  own_idle {i _ _} h hrx hi := by
    cases i with
    | rxIbus b => exact absurd rfl (hrx b)
    | abortIbus | reset => cases h; rfl
    | _ => simp [partOf] at hi
  timersOk := fun ⟨_, _, ⟨htimers, _⟩, _⟩ => htimers

theorem crsf_line : DecoderLine 2 crsfProtocol State.crsf .rxCrsf where
  toDecoderView := crsf_view
  own_idle {i _ _} h hrx hi := by
    cases i with
    | rxCrsf b => exact absurd rfl (hrx b)
    | abortCrsf | reset => cases h; rfl
    | _ => simp [partOf] at hi
  timersOk := fun ⟨_, _, _, ⟨htimers, _⟩, _⟩ => htimers

theorem sumd_line : DecoderLine 3 sumdProtocol State.sumd .rxSumd where
  toDecoderView := sumd_view
  own_idle {i _ _} h hrx hi := by
    cases i with
    | rxSumd b => exact absurd rfl (hrx b)
    | abortSumd | reset => cases h; rfl
    | _ => simp [partOf] at hi
  timersOk := fun ⟨_, _, _, _, _, ⟨htimers, _⟩⟩ => htimers

/-! ### A silence, and the frame after it -/

theorem execAll_total (is : List Instr) (s : State) : ∃ t, execAll is s = .next t := by
  induction is generalizing s with
  | nil => exact ⟨s, rfl⟩
  | cons i is ih =>
    obtain ⟨u, hu⟩ := exec_total i s
    obtain ⟨t, ht⟩ := ih u
    exact ⟨t, by rw [execAll_cons, hu, andThen_next, ht]⟩

section
variable {σ : Type} {n cap a : Nat} {P : Protocol σ} {view : State → Decoder σ n cap}
  {rx : Byte → Instr} {is : List Instr} {s t : State}

/-- The TICKs of a run without a byte are counted, whatever other commands come between: ABORT and
RESET leave the decoder idle, the others leave it alone. -/
theorem DecoderLine.silentFor (hline : DecoderLine a P view rx) (hrun : execAll is s = .next t)
    (hs : s.Inv) (hrx : ∀ b, rx b ∉ is) (ht : P.tByte s.params ≠ 0) :
    SilentFor P s.params (is.count .tick) (view t) := by
  induction is using List.reverseRecOn generalizing t with
  | nil =>
    cases hrun
    exact (hline.timersOk hs).silentFor_zero ht
  | append_singleton is i ih =>
    obtain ⟨u, hu, hi⟩ := execAll_snoc_eq_next hrun
    simp only [List.mem_append, List.mem_singleton, not_or] at hrx
    have hbefore := ih hu fun b => (hrx b).1
    by_cases htick : i = .tick
    · subst htick
      rw [count_tick_snoc, hline.tick hi, execAll_keeps_params hu]
      exact hbefore.tick ht hline.initial_idle
    rw [count_tick_snoc_of_ne is htick]
    by_cases hacts : partOf i = some a ∨ i = .reset
    · exact .inl (hline.own_idle hi (fun b => Ne.symm (hrx b).2) hacts)
    · obtain ⟨hpart, hreset⟩ := not_or.1 hacts
      rwa [hline.other hi htick hreset hpart]

/-- After a silence of the timeout, commands that publish from every idle state do publish. -/
theorem DecoderLine.published_after_silence (hline : DecoderLine a P view rx) (hs : s.Inv)
    (hrx : ∀ b, rx b ∉ is) (ht : P.tByte s.params ≠ 0)
    (hcount : (P.tByte s.params).toNat ≤ is.count .tick) {frame : List Instr}
    (hframe : ∀ t : State, t.params = s.params → P.isIdle (view t).st = true →
      ∃ u, execAll frame t = .next u ∧ u.resp = ⟨.ok, 3⟩) :
    ∃ u, execAll (is ++ frame) s = .next u ∧ u.resp = ⟨.ok, 3⟩ := by
  obtain ⟨t, hrun⟩ := execAll_total is s
  have hidle := (hline.silentFor hrun hs hrx ht).isIdle hcount
  rw [execAll_append, hrun, andThen_next]
  exact hframe t (execAll_keeps_params hrun) hidle

end

/-! ### The frames -/

theorem IbusState.isIdle_iff {st : IbusState} : st.isIdle = true ↔ st = .idle := by
  cases st <;> decide

theorem CrsfState.isIdle_iff {st : CrsfState} : st.isIdle = true ↔ st = .sync := by
  cases st <;> decide

theorem SumdState.isIdle_iff {st : SumdState} : st.isIdle = true ↔ st = .sync := by
  cases st <;> decide

/-- An RC-channels frame, sent to a decoder in `Sync`, is published, whatever its 22 payload bytes
(R284, R285). -/
theorem execAll_crsfRcFrame (s : State) {payload : List Byte} (hst : s.crsf.st = .sync)
    (hlen : payload.length = 22) (hmin : s.params.crsfLenMin.toNat ≤ 24)
    (hmax : 24 ≤ s.params.crsfLenMax.toNat) :
    ∃ unit, execAll (rxsCrsf (crsfFrame s.params s.params.crsfTypeRc payload)) s =
      .next (s.afterCrsf (.published unit)) := by
  obtain ⟨hrun, hidx, hexp⟩ := execAll_crsfFrame s s.params.crsfTypeRc (payload := payload) hst
    (by omega) (by omega) _ rfl
  have htype : (crsfHolding s.params s.params.crsfTypeRc payload s.crsf).byte 2 =
      s.params.crsfTypeRc := crsfHolding_byte _ _ _ (by omega) (by omega)
  have hexp24 : (crsfHolding s.params s.params.crsfTypeRc payload s.crsf).exp = 24 :=
    BitVec.eq_of_toNat_eq (by rw [hexp, hlen]; rfl)
  rw [crsfJudge_of_rc hidx rfl htype hexp24] at hrun
  exact ⟨_, hrun⟩

/-- Settles O54: the silence leaves the decoder idle, and from there a valid frame is published. -/
theorem recoveryAfterSilence : Obligations.RecoveryAfterSilence := by
  intro s is hs
  refine ⟨fun ch fl hrx ht hcount _ => ?_, fun ch hrx ht hcount hlen => ?_,
    fun payload hrx ht hcount hlen hmin hmax => ?_,
    fun status ch hrx ht hcount hstatus hmin hmax => ?_⟩
  · refine sbus_line.published_after_silence hs hrx ht hcount fun t hp hidle => ?_
    rw [← hp]
    exact ⟨_, execAll_sbusFrame t ch fl hidle, rfl⟩
  · refine ibus_line.published_after_silence hs hrx ht hcount fun t hp hidle => ?_
    rw [← hp]
    exact ⟨_, execAll_ibusFrame t (IbusState.isIdle_iff.1 hidle) hlen _ rfl, rfl⟩
  · refine crsf_line.published_after_silence hs hrx ht hcount fun t hp hidle => ?_
    rw [← hp] at hmin hmax ⊢
    obtain ⟨unit, hrun⟩ := execAll_crsfRcFrame t (CrsfState.isIdle_iff.1 hidle) hlen hmin hmax
    exact ⟨_, hrun, Received.resp_published unit⟩
  · refine sumd_line.published_after_silence hs hrx ht hcount fun t hp hidle => ?_
    have ⟨hwf, _⟩ := hs
    rw [← hp] at hwf hstatus hmin hmax ⊢
    exact ⟨_, execAll_sumdFrame t hwf (SumdState.isIdle_iff.1 hidle) hstatus hmin hmax,
      Received.resp_published _⟩

end Sys2Proof.Machine
end
